-- ==== Sys2Proof/Word.lean ====
section
/-! DEFINITION. The word types of EBYTE-CFG: 8-bit bytes, the 16-bit record fields and the GPIO level. -/

namespace Sys2Proof

/-- One byte of a frame, of the register block, of RXBUF or of TXLOG (R6, R24, R25). -/
abbrev Byte := BitVec 8

/-- A 16-bit field of the configuration record (address, encryptionKey; R16). -/
abbrev Half := BitVec 16

/-- The two logic levels of a GPIO line; as a bit, `low = 0` and `high = 1` (R7). -/
inductive Level where
  | low
  | high
  deriving DecidableEq, Repr, Inhabited

end Sys2Proof
end

