-- ==== Sys2Proof/Syntax.lean ====
section
/-! DEFINITION. The data the block is commanded with (modes, status codes, configuration record, register block, command port)
and `Instr`, one constructor per row of spec/opcode_table.json. -/

namespace Sys2Proof

/-- The four modes of the radio module (R13, R78). -/
inductive Mode where
  | normal
  | wakeUp
  | powerDown
  | program
  deriving DecidableEq, Repr, Inhabited

/-- The seven status codes of the response port (R84). -/
inductive Status where
  | ok
  | shortRead
  | transportTimeout
  | invalidEnumValue
  | busy
  | notInitialised
  | illegalCommand
  deriving DecidableEq, Repr, Inhabited

/-- The configuration record of 13 fields (R16). An enumerated field is an unsigned index on an 8-bit port, so that an index
beyond the enumeration can be presented and rejected. -/
structure Configuration where
  address            : Half
  baudRate           : Byte
  parity             : Byte
  airDataRate        : Byte
  subPacketSize      : Byte
  rssiAmbientNoise   : Bool
  transmitPower      : Byte
  channel            : Byte
  rssiByteEnable     : Bool
  transmissionMethod : Byte
  lbtEnable          : Bool
  worCycle           : Byte
  encryptionKey      : Half
  deriving DecidableEq, Repr, Inhabited

/-- The record with every field 0 or false. -/
def Configuration.zero : Configuration :=
  { address := 0, baudRate := 0, parity := 0, airDataRate := 0, subPacketSize := 0, rssiAmbientNoise := false,
    transmitPower := 0, channel := 0, rssiByteEnable := false, transmissionMethod := 0, lbtEnable := false,
    worCycle := 0, encryptionKey := 0 }

/-- The register block `B[0..7]`; `b0` is the first byte on the wire (R6, R11). -/
structure Block where
  b0 : Byte
  b1 : Byte
  b2 : Byte
  b3 : Byte
  b4 : Byte
  b5 : Byte
  b6 : Byte
  b7 : Byte
  deriving DecidableEq, Repr, Inhabited

/-- The block of eight zero bytes. -/
def Block.zero : Block := ⟨0, 0, 0, 0, 0, 0, 0, 0⟩

/-- What the host puts on the command port while `cmd_valid` is 1 (R26). -/
structure CommandPort where
  code : Byte
  cfg  : Configuration
  blk  : Block
  text : List Byte
  deriving DecidableEq, Repr, Inhabited

/-- A command port that shows a code and zero operands. -/
def CommandPort.ofCode (c : Byte) : CommandPort :=
  { code := c, cfg := Configuration.zero, blk := Block.zero, text := [] }

/-- One constructor per row of spec/opcode_table.json. The first nine are the host's commands (R83). The other rows are the words
the block itself takes from or puts on a port while a command runs: the register block that ENCODE makes and the one DECODE
accepts (R71, R77), the two request frames (R51), the mode-select pair (R78) and the status code of a response (R84). -/
inductive Instr where
  | init
  | getMode
  | setMode (target : Mode)
  | encode (cfg : Configuration)
  | decode (blk : Block)
  | cfgRead
  | cfgWrite (cfg : Configuration)
  | lineSend (text : List Byte)
  | lineRecv
  | regblock (cfg : Configuration)
  | regblockIn (blk : Block)
  | wireReadReq
  | wireWriteReq (blk : Block)
  | modeNormal
  | modeWakeUp
  | modePowerDown
  | modeProgram
  | statusOk
  | statusShortRead
  | statusTransportTimeout
  | statusInvalidEnumValue
  | statusBusy
  | statusNotInitialised
  | statusIllegalCommand
  deriving DecidableEq, Repr

end Sys2Proof
end

