-- ==== Sys2Proof/Config.lean ====
section
/-! DEFINITION. What an implementation fixes (the timing parameters, the line terminator) and what the spec leaves to the
environment (free values: opaque constants that nothing can evaluate). -/

namespace Sys2Proof

/-- What the environment does before one step of the block (R50, R57, R15): time passes by any amount, any bytes arrive at the tail
of RXBUF, and the ready line AUX has some level while the step is taken. -/
structure EnvAct where
  dt     : Nat
  arrive : List Byte
  aux    : Level
  deriving DecidableEq, Repr, Inhabited

/-- The timing parameters of R5, in milliseconds; fixed before reset is released (R211). -/
structure Params where
  settleMs       : Nat
  pollMs         : Nat
  readyTimeoutMs : Nat
  frameTimeoutMs : Nat
  deriving DecidableEq, Repr

/-- The parameter range: POLL_MS is at least 1 (R5) and every duration fits a counter of TMR_W = 32 bits (R23, R134). -/
abbrev Params.InRange (p : Params) : Prop :=
  1 ≤ p.pollMs ∧ p.settleMs < 2 ^ 32 ∧ p.pollMs < 2 ^ 32 ∧ p.readyTimeoutMs < 2 ^ 32 ∧ p.frameTimeoutMs < 2 ^ 32

namespace Config

/-- SETTLE_MS, "recovery delay, default 40ms" (R5). -/
def settleDefaultMs : Nat := 40

/-- FREE VALUE (R5: POLL_MS is OPEN, at least 1; log entry 4). `params` reads a 0 as 1. -/
opaque pollMs : BitVec 32

/-- FREE VALUE (R5: READY_TIMEOUT_MS is OPEN, finite; log entry 4). -/
opaque readyTimeoutMs : BitVec 32

/-- FREE VALUE (R5: FRAME_TIMEOUT_MS is OPEN, finite; log entry 4). -/
opaque frameTimeoutMs : BitVec 32

/-- The parameters an implementation comes out of reset with: the one default of the spec and three open values (R5). -/
def params : Params :=
  { settleMs := settleDefaultMs, pollMs := max 1 pollMs.toNat, readyTimeoutMs := readyTimeoutMs.toNat,
    frameTimeoutMs := frameTimeoutMs.toNat }

/-- FREE VALUE (R15, R50, R57; log entry 3): the environment's act at draw `n`, under no law. It is used where State's own list of
acts has run out. -/
opaque freeEnv : Nat → EnvAct

/-- FREE VALUE (R154: CFGL's content after the response of a configuration command is unspecified; log entry 6). -/
opaque freeRecord : Nat → Configuration

/-- FREE VALUE (R154: BLKL's content after the response of a configuration command is unspecified; log entry 6). -/
opaque freeBlock : Nat → Block

/-- The line terminator NL (R172). PRESUMED (G5; log entry 9): the byte value is from outside the source. -/
def newline : Byte := 0x0A

end Config

end Sys2Proof
end

