-- ==== Sys2Proof/Machine/Operands.lean ====
section
/-! DEFINITION. Operand assembly, independent of State: the codes of modes, status values and commands, the validity of a record,
packing and unpacking of the register block, the request frames and the line format. -/

namespace Sys2Proof

/-! ## Codes -/

/-- A level as a bit, `low = 0`, `high = 1` (R7). -/
def Level.bit : Level → BitVec 1
  | .low => 0
  | .high => 1

/-- The level that a bit stands for (R7). -/
def Level.ofBit (b : BitVec 1) : Level := if b = 0 then .low else .high

/-- The MODESEL code of a mode (R78). -/
def Mode.code : Mode → BitVec 2
  | .normal => 0
  | .wakeUp => 1
  | .powerDown => 2
  | .program => 3

/-- The mode that a MODESEL code selects; all four codes are legal (R78). -/
def Mode.ofCode (c : BitVec 2) : Mode :=
  if c = 0 then .normal else if c = 1 then .wakeUp else if c = 2 then .powerDown else .program

/-- The level of mode-select line A, the low bit of the mode encoding (R14, R78). -/
def Mode.lineA (m : Mode) : Level := Level.ofBit (m.code.extractLsb' 0 1)

/-- The level of mode-select line B, the high bit of the mode encoding (R14, R78). -/
def Mode.lineB (m : Mode) : Level := Level.ofBit (m.code.extractLsb' 1 1)

/-- The 4-bit code of a status (R84). -/
def Status.code : Status → BitVec 4
  | .ok => 0
  | .shortRead => 1
  | .transportTimeout => 2
  | .invalidEnumValue => 3
  | .busy => 8
  | .notInitialised => 9
  | .illegalCommand => 10

/-- The status that a 4-bit code stands for; 4 to 7 and 11 to 15 are reserved and never produced (R84). -/
def Status.ofCode (c : BitVec 4) : Option Status :=
  if c = 0 then some .ok else if c = 1 then some .shortRead else if c = 2 then some .transportTimeout
  else if c = 3 then some .invalidEnumValue else if c = 8 then some .busy else if c = 9 then some .notInitialised
  else if c = 10 then some .illegalCommand else none

/-- Busy, NotInitialised and IllegalCommand decline a command before it changes any state (R185). -/
def Status.isRefusal : Status → Bool
  | .busy => true
  | .notInitialised => true
  | .illegalCommand => true
  | _ => false

/-! ## Command codes (R83) -/

def codeInit : Byte := 0x01
def codeGetMode : Byte := 0x02
/-- SET_MODE carries its target in bits 1:0 in the MODESEL code (R83). -/
def codeSetMode (m : Mode) : Byte := 0x10 ||| m.code.setWidth 8
def codeEncode : Byte := 0x20
def codeDecode : Byte := 0x21
def codeCfgRead : Byte := 0x30
def codeCfgWrite : Byte := 0x31
def codeLineSend : Byte := 0x40
def codeLineRecv : Byte := 0x41

/-- Is the code one of the four SET_MODE codes `000100mm` (R83)? -/
def isSetMode (c : Byte) : Bool := c &&& 0xFC == 0x10

/-- The mode in bits 1:0 of a SET_MODE code (R83). -/
def setModeTarget (c : Byte) : Mode := Mode.ofCode (c.setWidth 2)

/-- The commands that consist of one mode transition only (R153). -/
def isTransitionOnly (c : Byte) : Bool := c == codeInit || isSetMode c

/-- The two commands that exchange a frame with the module (R153). -/
def isConfigCommand (c : Byte) : Bool := c == codeCfgRead || c == codeCfgWrite

/-- The commands that hold BUSY while they run (R18). -/
def isSequenced (c : Byte) : Bool := isTransitionOnly c || isConfigCommand c

/-- The target of the first transition of a sequenced command: Program for CFG_READ and CFG_WRITE (R153), Normal for INIT (R129),
the code's own target for SET_MODE (R120). -/
def entryTarget (c : Byte) : Mode :=
  if isConfigCommand c then .program else if isSetMode c then setModeTarget c else .normal

/-- The mode in which a sequenced command leaves the block: Normal after CFG_READ and CFG_WRITE on every path (R152), the target
of its one transition after INIT and SET_MODE (R126). -/
def restMode (c : Byte) : Mode := if isConfigCommand c then .normal else entryTarget c

/-! ## Register block: bits and bytes -/

/-- `zext_8(v[hi:lo])` of a byte (R7). -/
def slice (v : Byte) (hi lo : Nat) : Byte := (v.extractLsb hi lo).setWidth 8

/-- A boolean as a bit value, `false = 0`, `true = 1` (R17). -/
def boolBit (b : Bool) : Byte := if b then 1 else 0

/-- The high half of a big-endian 16-bit value (R41). -/
def Half.high (v : Half) : Byte := v.extractLsb' 8 8

/-- The low half of a big-endian 16-bit value (R41). -/
def Half.low (v : Half) : Byte := v.extractLsb' 0 8

/-- `(hi << 8) | lo` (R77). -/
def Half.ofBytes (hi lo : Byte) : Half := (hi.setWidth 16 <<< 8) ||| lo.setWidth 16

/-- `Valid(cfg)`: every enumerated field's whole 8-bit index is below its cardinality (R102). -/
def Configuration.valid (c : Configuration) : Bool :=
  decide (c.baudRate.toNat ≤ 7) && decide (c.parity.toNat ≤ 3) && decide (c.airDataRate.toNat ≤ 7)
    && decide (c.subPacketSize.toNat ≤ 3) && decide (c.transmitPower.toNat ≤ 3)
    && decide (c.transmissionMethod.toNat ≤ 1) && decide (c.worCycle.toNat ≤ 7)

/-- `Canonical(blk)`: the five reserved bits `B[3][4:2]`, `B[5][5]`, `B[5][3]` are 0 (R107). -/
def Block.canonical (b : Block) : Bool := b.b3 &&& 0x1C == 0 && b.b5 &&& 0x28 == 0

/-- The block with its five reserved bits cleared (R104). -/
def Block.clearReserved (b : Block) : Block := { b with b3 := b.b3 &&& 0xE3, b5 := b.b5 &&& 0xD7 }

/-- Packing, the bit layout of R71 as ENCODE writes it (R76, R100); the reserved bits are 0 (R80). -/
def pack (c : Configuration) : Block :=
  { b0 := c.address.high
    b1 := c.address.low
    b2 := (slice c.baudRate 2 0 <<< 5) ||| (slice c.parity 1 0 <<< 3) ||| slice c.airDataRate 2 0
    b3 := (slice c.subPacketSize 1 0 <<< 6) ||| (boolBit c.rssiAmbientNoise <<< 5) ||| slice c.transmitPower 1 0
    b4 := c.channel
    b5 := (boolBit c.rssiByteEnable <<< 7) ||| (slice c.transmissionMethod 0 0 <<< 6) ||| (boolBit c.lbtEnable <<< 4)
            ||| slice c.worCycle 2 0
    b6 := c.encryptionKey.high
    b7 := c.encryptionKey.low }

/-- Unpacking (R77, R101); total, the reserved bits are not looked at (R80). -/
def unpack (b : Block) : Configuration :=
  { address := Half.ofBytes b.b0 b.b1
    baudRate := slice b.b2 7 5
    parity := slice b.b2 4 3
    airDataRate := slice b.b2 2 0
    subPacketSize := slice b.b3 7 6
    rssiAmbientNoise := b.b3.getLsbD 5
    transmitPower := slice b.b3 1 0
    channel := b.b4
    rssiByteEnable := b.b5.getLsbD 7
    transmissionMethod := slice b.b5 6 6
    lbtEnable := b.b5.getLsbD 4
    worCycle := slice b.b5 2 0
    encryptionKey := Half.ofBytes b.b6 b.b7 }

/-- The eight bytes of a block in wire order, `B[0]` first (R6, R42). -/
def Block.bytes (b : Block) : List Byte := [b.b0, b.b1, b.b2, b.b3, b.b4, b.b5, b.b6, b.b7]

/-- The block that the first eight bytes of a sequence hold (a byte that is not there reads 0; the callers give eight). -/
def Block.ofBytes (l : List Byte) : Block :=
  ⟨l.getD 0 0, l.getD 1 0, l.getD 2 0, l.getD 3 0, l.getD 4 0, l.getD 5 0, l.getD 6 0, l.getD 7 0⟩

/-- The block that the flat view `RB[63:0]` holds: `B[0]` is `RB[63:56]` (R6). -/
def Block.ofFlat (r : BitVec 64) : Block :=
  ⟨r.extractLsb' 56 8, r.extractLsb' 48 8, r.extractLsb' 40 8, r.extractLsb' 32 8, r.extractLsb' 24 8,
    r.extractLsb' 16 8, r.extractLsb' 8 8, r.extractLsb' 0 8⟩

/-! ## Wire frames (R51, R79) -/

/-- The read-registers request: command, start address, length (R51). -/
def readRequest : List Byte := [0xC1, 0x00, 0x08]

/-- The header of the write-registers request (R51). -/
def writeHeader : List Byte := [0xC0, 0x00, 0x08]

/-- The write-registers request: the header and the eight bytes of the block (R51). -/
def writeRequest (b : Block) : List Byte := writeHeader ++ b.bytes

/-- The length of the read response: 3 echoed bytes and 8 of payload (R51). -/
def readResponseLen : Nat := 11

/-- The length of the write acknowledgement (R51). -/
def writeAckLen : Nat := 8

/-- The register block in a read response: its bytes 3 to 10, the first three unchecked (R52, R55). -/
def responseBlock (bytes : List Byte) : Block := Block.ofBytes (bytes.drop 3)

/-! ## Lines (R172) -/

/-- The first complete line of a byte sequence, terminator removed, and what follows the terminator; none where there is no
terminator (R171). -/
def splitLine : List Byte → Option (List Byte × List Byte)
  | [] => none
  | b :: rest =>
    if b = Config.newline then some ([], rest)
    else match splitLine rest with
      | some (line, after) => some (b :: line, after)
      | none => none

/-- Does the text hold no terminator (the precondition on LINE_SEND's operand; R170, R219)? -/
def isLineText (text : List Byte) : Bool := text.all (fun b => b != Config.newline)

end Sys2Proof
end

