-- ==== Sys2Proof/WellFormed.lean ====
section
/-! DEFINITION. Which terms of `Instr` are instructions of the hardware. -/

namespace Sys2Proof

/-- A REGBLOCK row holds a record every enumerated index of which fits its bits (R81, R102). The payload of a write request is a
block as ENCODE makes it, reserved bits 0 (the table's row WIRE_WRITE_REQ; R53, R107). A line's text holds no terminator (R170).
Every other operand is legal at every value of its port: ENCODE and CFG_WRITE take any record, so that InvalidEnumValue can be
met (R16), and DECODE takes any block (R81). -/
def Instr.wf : Instr → Bool
  | .init => true
  | .getMode => true
  | .setMode _ => true
  | .encode _ => true
  | .decode _ => true
  | .cfgRead => true
  | .cfgWrite _ => true
  | .lineSend text => isLineText text
  | .lineRecv => true
  | .regblock cfg => cfg.valid
  | .regblockIn _ => true
  | .wireReadReq => true
  | .wireWriteReq blk => blk.canonical
  | .modeNormal => true
  | .modeWakeUp => true
  | .modePowerDown => true
  | .modeProgram => true
  | .statusOk => true
  | .statusShortRead => true
  | .statusTransportTimeout => true
  | .statusInvalidEnumValue => true
  | .statusBusy => true
  | .statusNotInitialised => true
  | .statusIllegalCommand => true

end Sys2Proof
end

