-- ==== Sys2Proof/Decode.lean ====
section
/-! DEFINITION. The decoder of every format of the hardware (R70), total, rejecting by name; after it the encoder. -/

namespace Sys2Proof

/-- A word of one of the formats of R70 as it stands on the port that carries it. The same bits mean different things on different
ports (`01` is INIT on the command port, WakeUp on the mode-select pins, ShortRead on the response port), so a word carries its
port. -/
inductive PortWord where
  | command (p : CommandPort)        -- CMD, 8 bits and the operand ports (R26, R83)
  | blockOut (b : Block)             -- REGBLOCK as ENCODE makes it (R71)
  | blockIn (b : Block)              -- REGBLOCK as DECODE accepts it (R77)
  | wire (bytes : List Byte)         -- a request frame on the UART (R51, R79)
  | modeSelect (m : BitVec 2)        -- MODESEL, line B then line A (R78)
  | status (c : BitVec 4)            -- STATUS (R84)
  deriving DecidableEq, Repr

/-- Why a word is no instruction. -/
inductive Reject where
  | illegalCommand (code : Byte)     -- a command code outside the table of R83 (R85)
  | reservedBitsSet (b : Block)      -- ENCODE writes 0 in the reserved bits (R80)
  | notARequestFrame                 -- no other command byte, address, length or frame length is ever sent (R82)
  | reservedStatus (c : BitVec 4)    -- 4 to 7 and 11 to 15 are never produced (R84)
  deriving DecidableEq, Repr

/-! ## The decoder -/

/-- The command that a code and the operand ports present (R83). -/
def decodeCommand (p : CommandPort) : Except Reject Instr :=
  if p.code = codeInit then .ok .init
  else if p.code = codeGetMode then .ok .getMode
  else if isSetMode p.code then .ok (.setMode (setModeTarget p.code))
  else if p.code = codeEncode then .ok (.encode p.cfg)
  else if p.code = codeDecode then .ok (.decode p.blk)
  else if p.code = codeCfgRead then .ok .cfgRead
  else if p.code = codeCfgWrite then .ok (.cfgWrite p.cfg)
  else if p.code = codeLineSend then .ok (.lineSend p.text)
  else if p.code = codeLineRecv then .ok .lineRecv
  else .error (.illegalCommand p.code)

/-- The request frame that a byte sequence is (R51). -/
def decodeWire : List Byte → Except Reject Instr
  | [c, a, l] => if [c, a, l] = readRequest then .ok .wireReadReq else .error .notARequestFrame
  | [c, a, l, x0, x1, x2, x3, x4, x5, x6, x7] =>
    if [c, a, l] = writeHeader then
      if (Block.mk x0 x1 x2 x3 x4 x5 x6 x7).canonical then .ok (.wireWriteReq ⟨x0, x1, x2, x3, x4, x5, x6, x7⟩)
      else .error (.reservedBitsSet ⟨x0, x1, x2, x3, x4, x5, x6, x7⟩)
    else .error .notARequestFrame
  | _ => .error .notARequestFrame

/-- The instruction that drives a mode onto the mode-select pins (R78). -/
def modeInstr : Mode → Instr
  | .normal => .modeNormal
  | .wakeUp => .modeWakeUp
  | .powerDown => .modePowerDown
  | .program => .modeProgram

/-- The instruction that presents a status on the response port (R84). -/
def statusInstr : Status → Instr
  | .ok => .statusOk
  | .shortRead => .statusShortRead
  | .transportTimeout => .statusTransportTimeout
  | .invalidEnumValue => .statusInvalidEnumValue
  | .busy => .statusBusy
  | .notInitialised => .statusNotInitialised
  | .illegalCommand => .statusIllegalCommand

/-- The instruction that a word of any format is. -/
def decode : PortWord → Except Reject Instr
  | .command p => decodeCommand p
  | .blockOut b => if b.canonical then .ok (.regblock (unpack b)) else .error (.reservedBitsSet b)
  | .blockIn b => .ok (.regblockIn b)
  | .wire bytes => decodeWire bytes
  | .modeSelect m => .ok (modeInstr (Mode.ofCode m))
  | .status c => match Status.ofCode c with
    | some st => .ok (statusInstr st)
    | none => .error (.reservedStatus c)

/-! ## The encoder -/

/-- The word of an instruction on its port, from the tables of R83, R71, R51, R78 and R84. Operand ports that a command does not
use carry zeros. -/
def encode : Instr → PortWord
  | .init => .command (CommandPort.ofCode codeInit)
  | .getMode => .command (CommandPort.ofCode codeGetMode)
  | .setMode m => .command (CommandPort.ofCode (codeSetMode m))
  | .encode cfg => .command { CommandPort.ofCode codeEncode with cfg := cfg }
  | .decode blk => .command { CommandPort.ofCode codeDecode with blk := blk }
  | .cfgRead => .command (CommandPort.ofCode codeCfgRead)
  | .cfgWrite cfg => .command { CommandPort.ofCode codeCfgWrite with cfg := cfg }
  | .lineSend text => .command { CommandPort.ofCode codeLineSend with text := text }
  | .lineRecv => .command (CommandPort.ofCode codeLineRecv)
  | .regblock cfg => .blockOut (pack cfg)
  | .regblockIn blk => .blockIn blk
  | .wireReadReq => .wire readRequest
  | .wireWriteReq blk => .wire (writeRequest blk)
  | .modeNormal => .modeSelect Mode.normal.code
  | .modeWakeUp => .modeSelect Mode.wakeUp.code
  | .modePowerDown => .modeSelect Mode.powerDown.code
  | .modeProgram => .modeSelect Mode.program.code
  | .statusOk => .status Status.ok.code
  | .statusShortRead => .status Status.shortRead.code
  | .statusTransportTimeout => .status Status.transportTimeout.code
  | .statusInvalidEnumValue => .status Status.invalidEnumValue.code
  | .statusBusy => .status Status.busy.code
  | .statusNotInitialised => .status Status.notInitialised.code
  | .statusIllegalCommand => .status Status.illegalCommand.code

/-- The number of bits of a word's format: CMD 8, REGBLOCK 64, a request frame 8 a byte, MODESEL 2, STATUS 4 (R70). -/
def PortWord.bits : PortWord → Nat
  | .command _ => 8
  | .blockOut _ => 64
  | .blockIn _ => 64
  | .wire bytes => 8 * bytes.length
  | .modeSelect _ => 2
  | .status _ => 4

/-! ## Words as spec/opcode_table.json numbers them -/

/-- Is the code in the command map of R83? -/
def isCommandCode (c : Byte) : Bool :=
  match decodeCommand (CommandPort.ofCode c) with
  | .ok _ => true
  | .error _ => false

/-- A word of `nbits` bits numbered as the table numbers it (leftmost character of a row's pattern the most significant bit, so the
header `C1 00 08` is `0xC10008` and `B[0]` is `RB[63:56]`; R6). The table gives MODESEL 2 bits and STATUS 4; where such a
row comes rounded up to a byte its format is lost, and a byte is read as a command code if it is one, else as a MODESEL code,
else as a STATUS code (log entry 15). A write request of 24 bits has a payload of zeros. A write request of 88 bits is read with
its header in the top 24 bits, or in the low 24 bits where the table's match and mask put it. -/
def tableWord (nbits w : Nat) : PortWord :=
  if nbits ≤ 2 then .modeSelect (BitVec.ofNat 2 w)
  else if nbits ≤ 4 then .status (BitVec.ofNat 4 w)
  else if nbits ≤ 8 then
    if isCommandCode (BitVec.ofNat 8 w) then .command (CommandPort.ofCode (BitVec.ofNat 8 w))
    else if w < 4 then .modeSelect (BitVec.ofNat 2 w)
    else if w < 16 then .status (BitVec.ofNat 4 w)
    else .command (CommandPort.ofCode (BitVec.ofNat 8 w))
  else if nbits ≤ 24 then
    if w = 0xC00008 then .wire (writeRequest Block.zero)
    else .wire [BitVec.ofNat 8 (w >>> 16), BitVec.ofNat 8 (w >>> 8), BitVec.ofNat 8 w]
  else if nbits ≤ 64 then
    if (Block.ofFlat (BitVec.ofNat 64 w)).canonical then .blockOut (Block.ofFlat (BitVec.ofNat 64 w))
    else .blockIn (Block.ofFlat (BitVec.ofNat 64 w))
  else if w >>> 64 = 0xC00008 then .wire (writeRequest (Block.ofFlat (BitVec.ofNat 64 w)))
  else if w % 2 ^ 24 = 0xC00008 then .wire (writeRequest (Block.ofFlat (BitVec.ofNat 64 (w >>> 24))))
  else .wire []

/-- The instruction that the decoder reads from a word numbered as the table numbers it. -/
def decodeTableWord (nbits w : Nat) : Option Instr :=
  match decode (tableWord nbits w) with
  | .ok i => some i
  | .error _ => none

end Sys2Proof
end

