-- ==== Sys2Proof/Machine/State.lean ====
section
/-! DEFINITION. The state of EBYTE-CFG as plain data, its fault and refusal reasons, and the state after reset. -/

namespace Sys2Proof.Machine

/-- The position inside a mode transition (R12). -/
inductive Phase where
  | idle
  | settle1
  | apply
  | settle2
  | drain
  | poll
  | pollWait
  deriving DecidableEq, Repr

/-- The position inside a command (R12). -/
inductive Seq where
  | idle
  | enter
  | encode
  | tx
  | rx
  | decode
  | exit
  | respond
  deriving DecidableEq, Repr

/-- What stands on the response port (R26, R84). A field that a command's rule does not drive is `none`: it has no value a model may
read (R84, U23). `count` and `bytes` are 0 and empty but for ShortRead (R84). -/
structure Response where
  status  : Status
  warn    : Option Bool
  mode    : Option Mode
  cfg     : Option Configuration
  blk     : Option Block
  text    : Option (List Byte)
  hasData : Option Bool
  count   : BitVec 4
  bytes   : List Byte
  deriving DecidableEq, Repr

/-- A response that carries a status and nothing else (R185). -/
def Response.bare (st : Status) : Response :=
  { status := st, warn := none, mode := none, cfg := none, blk := none, text := none, hasData := none, count := 0, bytes := [] }

/-- What the host does at one step: it presents a command (and, if `waits`, stays away until the response), it resets the block, or
it does nothing (R9 question 8, R26, R210, R215; log entry 5). -/
inductive HostAct where
  | present (p : CommandPort) (waits : Bool)
  | reset
  | nothing
  deriving DecidableEq, Repr

/-- The state. The first part is what the spec gives the block (R12 to R26); the second is what stands outside it and acts on it:
the parameters, time, the environment's acts to come and the host's acts to come (R9). -/
structure State where
  seq      : Seq                -- SEQ (R12)
  phase    : Phase              -- PHASE (R12)
  mode     : Mode               -- MODE, 2 bits (R13)
  msA      : Level              -- MS_A (R14)
  msB      : Level              -- MS_B (R14)
  inited   : Bool               -- INITED; while false the block does not drive the pins (R19)
  busy     : Bool               -- BUSY (R18)
  warn     : Bool               -- WARN (R20)
  err      : Status             -- ERR, 4 bits (R21)
  errBytes : List Byte          -- ERRBYTES, up to 10 bytes (R21)
  errCnt   : BitVec 4           -- ERRCNT (R21)
  target   : Mode               -- TARGET, 2 bits (R22)
  tmr      : Nat                -- TMR, milliseconds left (R23)
  t0       : Nat                -- T0, NOW at the start of the ready-wait (R23)
  ft0      : Nat                -- FT0, NOW at the start of the frame wait (R23)
  rxbuf    : List Byte          -- RXBUF, head first (R24)
  txlog    : List Byte          -- TXLOG, oldest first (R25)
  cmdl     : Byte               -- CMDL (R26); after the response, log entry 24
  cfgl     : Configuration      -- CFGL (R26)
  blkl     : Block              -- BLKL (R26)
  rspValid : Bool               -- rsp_valid (R26)
  rsp      : Response           -- rsp_status, rsp_warn, rsp_mode, rsp_cfg, rsp_blk, rsp_text, rsp_has_data, rsp_count, rsp_bytes (R26)
  par       : Params            -- the parameters (R5)
  now       : Nat               -- NOW, milliseconds (R7)
  env       : List EnvAct       -- the environment's acts at the next draws (R50, R57)
  draws     : Nat               -- how many draws have been made; indexes the free acts after `env` has run out
  frees     : Nat               -- how many times the latches took a free value; indexes the free values (R154)
  host      : List HostAct      -- the host's acts at the next steps (R26)
  hostWaits : Bool              -- the host waits for the response of the command it presented last (R9, R215)
  deriving DecidableEq, Repr

/-- How the machine stops without a next state. -/
inductive Fault where
  /-- Raised by `step` in a busy state from which the tables of R127 and R153 have no row (for example BUSY = 1 with SEQ = S_IDLE).
  No run from reset reaches one (`State.Inv`). Safe: the spec gives no next state. -/
  | noRowEnabled
  deriving DecidableEq, Repr

/-- Why the machine gives a step no meaning. -/
inductive Refusal where
  /-- Raised by `exec` for an instruction that has no meaning yet. Safe. No arm raises it. -/
  | notModelled (mnemonic : String)
  /-- Raised by `step` where the host presents a LINE_SEND whose text holds the terminator to a block that would accept it: "A
  model should refuse such an operand rather than give it a meaning" (R170, U15). Safe. -/
  | newlineInText
  deriving DecidableEq, Repr

/-- The machine right after reset (R30, R210). MODE, MS_A, MS_B, TARGET, TMR, T0, FT0, CMDL, CFGL, BLKL and the response fields have
no reset value in the spec; each holds the zero value of log entry 1 (DESIGN CHOICE, unsafe). The parameters are `Config.params`
(log entry 4). NOW is 0 (log entry 2). The environment's and the host's acts are those that whoever runs the machine lists; here none. -/
def State.reset : State :=
  { seq := .idle, phase := .idle, mode := .normal, msA := .low, msB := .low, inited := false, busy := false, warn := false,
    err := .ok, errBytes := [], errCnt := 0, target := .normal, tmr := 0, t0 := 0, ft0 := 0, rxbuf := [], txlog := [],
    cmdl := 0, cfgl := Configuration.zero, blkl := Block.zero, rspValid := false, rsp := Response.bare .ok,
    par := Config.params, now := 0, env := [], draws := 0, frees := 0, host := [], hostWaits := true }

end Sys2Proof.Machine
end

