-- ==== Sys2Proof/Machine/Flags.lean ====
section
/-! DEFINITION. The flags and latches of the sequencer: BUSY, INITED, WARN, ERR, ERRBYTES, ERRCNT, and the refusals they decide. -/

namespace Sys2Proof.Machine

/-- `cmd_ready`, equal to `not BUSY` (R26). -/
def State.cmdReady (s : State) : Bool := !s.busy

/-- Acceptance of a sequenced command: `BUSY <- 1; WARN <- 0; ERR <- 0; ERRBYTES <- []` (R153, R18, R20, R21, R187). The commands that
do not set BUSY write none of these flags (R100, R106, R130, R170, R171; program P4; log entry 13). -/
def State.acceptFlags (s : State) : State :=
  { s with busy := true, warn := false, err := .ok, errBytes := [], errCnt := 0 }

/-- A ready-wait timed out: `WARN <- 1` (R125, R184). -/
def State.setWarn (s : State) : State := { s with warn := true }

/-- The first error of a command is latched, with the bytes that a ShortRead carries and their count (R21, R186). -/
def State.latchError (e : Status) (bytes : List Byte) (s : State) : State :=
  { s with err := e, errBytes := bytes, errCnt := BitVec.ofNat 4 bytes.length }

/-- The refusal of a legal command, in the order Busy, NotInitialised (R185, R188; IllegalCommand is decided before, by the
decoder). INIT, ENCODE and DECODE need no INITED. -/
def State.refusal (needsInit : Bool) (s : State) : Option Status :=
  if s.busy then some .busy else if needsInit && !s.inited then some .notInitialised else none

end Sys2Proof.Machine
end

