-- ==== Sys2Proof/Machine/Ops.lean ====
section
/-! DEFINITION. The named operations of the block: time and the environment, the GPIO pins, the UART primitives, responses and
refusals, the mode transition's start, the error exit path (this hardware's taking of an exception) and the response row (its
return). -/

namespace Sys2Proof.Machine

/-! ## Time and the environment -/

/-- `d` milliseconds pass: NOW advances, and TMR, "decremented once per millisecond tick until 0", counts them (R7, R23). -/
def State.pass (d : Nat) (s : State) : State := { s with now := s.now + d, tmr := s.tmr - d }

/-- The environment's act at the coming draw: the next listed one, and a free value once the list has run out (R15, R50, R57). -/
def State.draw (s : State) : EnvAct := s.env.headD (Config.freeEnv s.draws)

/-- The environment acts before a step of the block: time passes and bytes arrive at the tail of RXBUF (R50, R57, R128). -/
def State.envStep (s : State) : State :=
  { s.pass s.draw.dt with rxbuf := s.rxbuf ++ s.draw.arrive, env := s.env.tail, draws := s.draws + 1 }

/-! ## GPIO -/

/-- The mode-select pins as the module sees them, line A and line B: not driven by the block while INITED is 0 (R14, R19). -/
def State.pins (s : State) : Option (Level × Level) := if s.inited then some (s.msA, s.msB) else none

/-- Step 2 of a mode transition, the row P_APPLY: MODE and both pins change together, INITED is set, the second settle delay starts
(R122, R127). -/
def State.applyMode (m : Mode) (s : State) : State :=
  { s with mode := m, msA := m.lineA, msB := m.lineB, inited := true, tmr := s.par.settleMs, phase := .settle2 }

/-! ## UART primitives -/

/-- `UartWrite(bs)`: `TXLOG <- TXLOG ++ bs` (R47). -/
def State.uartWrite (bs : List Byte) (s : State) : State := { s with txlog := s.txlog ++ bs }

/-- `UartDrain()`: `RXBUF <- []` (R49). -/
def State.uartDrain (s : State) : State := { s with rxbuf := [] }

/-- What a look at RXBUF tells a waiting `UartReadExact` (R48). -/
inductive ReadLook where
  | done (bytes : List Byte)
  | short (bytes : List Byte)
  | empty
  | waiting
  deriving DecidableEq, Repr

/-- `UartReadExact(n)` looks at RXBUF and at the clock: enough bytes wins over the timeout; at the timeout some bytes are a
ShortRead and none is a TransportTimeout; otherwise it waits on (R48, R182). -/
def State.readLook (n : Nat) (s : State) : ReadLook :=
  if n ≤ s.rxbuf.length then .done (s.rxbuf.take n)
  else if s.par.frameTimeoutMs ≤ s.now - s.ft0 then
    match s.rxbuf with
    | [] => .empty
    | b :: bs => .short (b :: bs)
  else .waiting

/-- The first `n` bytes leave RXBUF; the bytes beyond stay (R48). -/
def State.takeBytes (n : Nat) (s : State) : State := { s with rxbuf := s.rxbuf.drop n }

/-! ## Responses and refusals -/

/-- A response is presented: one pulse of `rsp_valid` (R26). -/
def State.answer (r : Response) (s : State) : State := { s with rspValid := true, rsp := r }

/-- A command is declined: the response carries the refusal status and nothing else changes (R185). -/
def State.refuse (st : Status) (s : State) : State := s.answer (Response.bare st)

/-- A command at the command port: refused with Busy or NotInitialised, or performed (R185, R188). -/
def runCommand (needsInit : Bool) (body : State → State) (s : State) : Host.Outcome State Fault Refusal :=
  .next (match s.refusal needsInit with
    | some st => s.refuse st
    | none => body s)

/-! ## The rows that start a transition, raise an error and respond -/

/-- The row P_IDLE of R127: a transition to `t` is requested; `TARGET <- t; TMR <- SETTLE_MS`. DESIGN CHOICE, safe (log entry 25): the
row of R153 that requests a transition and the row P_IDLE that takes the request are one step here, with no act of the environment
between them. -/
def State.requestTransition (t : Mode) (s : State) : State :=
  { s with target := t, tmr := s.par.settleMs, phase := .settle1 }

/-- The row S_IDLE of R153, and of INIT and SET_MODE by the same table: the code is latched, the flags are cleared and the first
transition is requested (R26, R120, R129). -/
def State.start (code : Byte) (s : State) : State :=
  { s.acceptFlags with cmdl := code, seq := .enter }.requestTransition (entryTarget code)

/-- TAKING AN ERROR (R186): the code and, for ShortRead, the received bytes are saved in ERR and ERRBYTES; the remaining steps of the
command are skipped; control goes to S_EXIT with the transition to Normal requested. There is no vector and no saved position. -/
def State.raiseError (e : Status) (bytes : List Byte) (s : State) : State :=
  { s.latchError e bytes with seq := .exit }.requestTransition .normal

/-- The exchange of a configuration command is over without an error: the transition to Normal is requested (R152, R153). -/
def State.leave (s : State) : State := { s with seq := .exit }.requestTransition .normal

/-- The response of a sequenced command with status `st`: warn, mode, the record of a CFG_READ that succeeded, the bytes of a
ShortRead (R84, R150, R151; `rsp_mode` is unspecified if INITED is 0). -/
def State.response (st : Status) (s : State) : Response :=
  { Response.bare st with
    warn := some s.warn
    mode := if s.inited then some s.mode else none
    cfg := if st = .ok ∧ s.cmdl = codeCfgRead then some s.cfgl else none
    count := if st = .shortRead then s.errCnt else 0
    bytes := if st = .shortRead then s.errBytes else [] }

/-- What the working latches hold after the response: after a configuration command the content of CFGL and BLKL is unspecified, a
free value (R154; log entry 6). DESIGN CHOICE, unsafe (U23; log entry 24): CMDL, which U23 leaves at any value too, keeps the code
of the last sequenced command. -/
def State.forgetLatches (s : State) : State :=
  { s with
    cfgl := if isConfigCommand s.cmdl then Config.freeRecord s.frees else s.cfgl
    blkl := if isConfigCommand s.cmdl then Config.freeBlock s.frees else s.blkl
    frees := if isConfigCommand s.cmdl then s.frees + 1 else s.frees }

/-- RETURN TO IDLE, the row S_RESPOND (R153, R187): the response is driven and `BUSY <- 0`. -/
def State.respond (st : Status) (s : State) : State :=
  { s.forgetLatches.answer (s.response st) with busy := false, seq := .idle }

/-- A status goes onto the response port: a refusal changes nothing else (R185), any other status ends the command in flight. -/
def State.present (st : Status) (s : State) : State := if st.isRefusal then s.refuse st else s.respond st

/-- The encode step of CFG_WRITE (row S_ENCODE): a valid record is packed into BLKL, an invalid one is an InvalidEnumValue and
nothing is written to the UART (R151, R153). -/
def State.encodeRecord (cfg : Configuration) (s : State) : State :=
  if cfg.valid then { s with blkl := pack cfg, seq := .tx } else s.raiseError .invalidEnumValue []

/-- The decode step of CFG_READ (row S_DECODE): the record goes into CFGL and the transition to Normal is requested (R153). -/
def State.decodeBlock (blk : Block) (s : State) : State := { s with cfgl := unpack blk }.leave

/-- A request frame is written and the frame wait starts (row S_TX): `UartWrite(frame); FT0 <- NOW` (R153). -/
def State.sendFrame (frame : List Byte) (s : State) : State :=
  { s.uartWrite frame with ft0 := s.now, seq := .rx }

/-! ## The host's port -/

/-- The start of a step: the environment acts, the response pulse of the step before ends (R26), and the host's act is taken. -/
def State.stepStart (s : State) : State := { s.envStep with rspValid := false, host := s.host.tail }

/-- Is the presented instruction given a meaning here? A LINE_SEND whose text holds the terminator is not, where the block would
accept it (R170, U15; log entry 8); one that the block refuses anyway is refused by the block (R188). -/
def State.admits (i : Instr) (s : State) : Bool := i.wf || s.busy || !s.inited

/-! ## Reset -/

/-- The block is reset, also in the middle of a command, which is abandoned with no response (R210, R131). What stands outside the
block stays: its parameters (R211), time, and the acts of the environment and of the host. -/
def State.resetBlock (s : State) : State :=
  { State.reset with
    par := s.par, now := s.now, env := s.env, draws := s.draws, frees := s.frees, host := s.host, hostWaits := s.hostWaits }

end Sys2Proof.Machine
end

