-- ==== Sys2Proof/Machine/Sequencer.lean ====
section
/-! DEFINITION. The sequencer: the phase machine of R127, the command table of R153, one step of the block, and the run of a command
from one of its rows to its response. -/

namespace Sys2Proof.Machine

/-- The 3-bit code of a PHASE (R12). -/
def Phase.code : Phase → BitVec 3
  | .idle => 0
  | .settle1 => 1
  | .apply => 2
  | .settle2 => 3
  | .drain => 4
  | .poll => 5
  | .pollWait => 6

/-- The 3-bit code of a SEQ (R12). -/
def Seq.code : Seq → BitVec 3
  | .idle => 0
  | .enter => 1
  | .encode => 2
  | .tx => 3
  | .rx => 4
  | .decode => 5
  | .exit => 6
  | .respond => 7

/-- One row of the phase table R127; `aux` is the level that AUX has while the row is performed, a fresh sample (R15, R125). A row
of a running delay is a millisecond tick. In P_IDLE there is no row. -/
def State.transitionRow (aux : Level) (s : State) : State :=
  match s.phase with
  | .idle => s
  | .settle1 => if s.tmr = 0 then { s with phase := .apply } else s.pass 1
  | .apply => s.applyMode s.target
  | .settle2 => if s.tmr = 0 then { s with phase := .drain } else s.pass 1
  | .drain => { s.uartDrain with t0 := s.now, phase := .poll }
  | .poll =>
    match aux with
    | .low => { s with phase := .idle }
    | .high =>
      if s.par.readyTimeoutMs ≤ s.now - s.t0 then { s.setWarn with phase := .idle }
      else { s with tmr := s.par.pollMs, phase := .pollWait }
  | .pollWait => if s.tmr = 0 then { s with phase := .poll } else s.pass 1

/-- The rows S_RX of CFG_READ (R52, R153). -/
def State.readResponseRow (s : State) : State :=
  match s.readLook readResponseLen with
  | .done bytes => { s.takeBytes readResponseLen with blkl := responseBlock bytes, seq := .decode }
  | .short bytes => s.uartDrain.raiseError .shortRead bytes
  | .empty => s.uartDrain.raiseError .transportTimeout []
  | .waiting => s.pass 1

/-- The rows S_RX of CFG_WRITE: the acknowledgement's bytes are dropped unchecked (R53, R55, R153). -/
def State.readAckRow (s : State) : State :=
  match s.readLook writeAckLen with
  | .done _ => (s.takeBytes writeAckLen).leave
  | .short bytes => s.uartDrain.raiseError .shortRead bytes
  | .empty => s.uartDrain.raiseError .transportTimeout []
  | .waiting => s.pass 1

/-- One row of the command table R153, or inside a transition one row of R127. `none`: the tables have no row here. -/
def State.row (aux : Level) (s : State) : Option State :=
  match s.seq with
  | .idle => none
  | .enter =>
    if s.phase ≠ .idle then some (s.transitionRow aux)
    else if s.cmdl = codeCfgRead then some { s with seq := .tx }
    else if s.cmdl = codeCfgWrite then some { s with seq := .encode }
    else if isTransitionOnly s.cmdl then some { s with seq := .respond }
    else none
  | .encode => if s.phase = .idle ∧ s.cmdl = codeCfgWrite then some (s.encodeRecord s.cfgl) else none
  | .tx =>
    if s.phase ≠ .idle then none
    else if s.cmdl = codeCfgRead then some (s.sendFrame readRequest)
    else if s.cmdl = codeCfgWrite then some (s.sendFrame (writeRequest s.blkl))
    else none
  | .rx =>
    if s.phase ≠ .idle then none
    else if s.cmdl = codeCfgRead then some s.readResponseRow
    else if s.cmdl = codeCfgWrite then some s.readAckRow
    else none
  | .decode => if s.phase = .idle ∧ s.cmdl = codeCfgRead then some (s.decodeBlock s.blkl) else none
  | .exit =>
    if s.phase ≠ .idle then some (s.transitionRow aux)
    else if isConfigCommand s.cmdl then some { s with seq := .respond }
    else none
  | .respond => if s.phase = .idle then some (s.present s.err) else none

/-- One step of the block while a command is in flight: the environment acts, then one row is performed (R57, R127). -/
def State.advance (s : State) : Option State := s.envStep.row s.draw.aux

/-- What a step does where the host presents nothing: a command in flight goes on by one row, an idle block stays as it is. -/
def State.quiet (aux : Level) (s : State) : Host.Outcome State Fault Refusal :=
  if s.busy then
    match s.row aux with
    | some t => .next t
    | none => .fault .noRowEnabled
  else .next s

/-- The word of the opcode table that the coming row takes from a latch or puts on a port: TARGET onto the pins, ERR onto the response
port, CFGL through the packer, BLKL through the unpacker, a request frame onto the UART (log entry 14). -/
def State.wordAt (s : State) : Option PortWord :=
  match s.phase with
  | .idle =>
    match s.seq with
    | .respond => some (.status s.err.code)
    | .encode => if s.cmdl = codeCfgWrite ∧ s.cfgl.valid then some (.blockOut (pack s.cfgl)) else none
    | .decode => if s.cmdl = codeCfgRead then some (.blockIn s.blkl) else none
    | .tx =>
      if s.cmdl = codeCfgRead then some (.wire readRequest)
      else if s.cmdl = codeCfgWrite then some (.wire (writeRequest s.blkl))
      else none
    | _ => none
  | .apply => if s.seq = .enter ∨ s.seq = .exit then some (.modeSelect s.target.code) else none
  | _ => none

/-! ## How many steps are left

A bound on the steps to the response, read from the tables; every wait is bounded by its timeout (R5, R125, R159). -/

/-- A ready-wait that has `left` ms to its timeout: a sample, and for every further interval a tick a millisecond and two rows. -/
def pollWork (p : Params) (left : Nat) : Nat := 1 + left * (p.pollMs + 2)

/-- A transition from the end of its second settle delay. -/
def drainWork (p : Params) : Nat := 1 + pollWork p p.readyTimeoutMs

/-- A transition from P_APPLY. -/
def applyWork (p : Params) : Nat := 1 + (p.settleMs + 1 + drainWork p)

/-- A whole transition. -/
def transitionWork (p : Params) : Nat := p.settleMs + 1 + applyWork p

/-- A configuration command from the request of its second transition. -/
def exitWork (p : Params) : Nat := transitionWork p + 2

/-- A configuration command from S_TX. -/
def txWork (p : Params) : Nat := p.frameTimeoutMs + 3 + exitWork p

/-- The milliseconds that the ready-wait has left. -/
def State.readyLeft (s : State) : Nat := s.par.readyTimeoutMs - (s.now - s.t0)

/-- The steps that the transition in flight has left. -/
def State.phaseWork (s : State) : Nat :=
  match s.phase with
  | .idle => 0
  | .settle1 => s.tmr + 1 + applyWork s.par
  | .apply => applyWork s.par
  | .settle2 => s.tmr + 1 + drainWork s.par
  | .drain => drainWork s.par
  | .poll => pollWork s.par s.readyLeft
  | .pollWait => s.tmr + 1 + pollWork s.par (s.readyLeft - s.tmr)

/-- The steps that the command in flight has left. -/
def State.work (s : State) : Nat :=
  match s.seq with
  | .idle => 0
  | .enter => s.phaseWork + 2 + txWork s.par
  | .encode => 1 + txWork s.par
  | .tx => txWork s.par
  | .rx => (s.par.frameTimeoutMs - (s.now - s.ft0)) + 2 + exitWork s.par
  | .decode => 1 + exitWork s.par
  | .exit => s.phaseWork + 2
  | .respond => 1

/-! ## The run to the response -/

/-- At most `n` steps of the block, ending at the response. -/
def State.runSteps : Nat → State → State
  | 0, s => s
  | n + 1, s =>
    if s.busy then
      match s.advance with
      | some s' => State.runSteps n s'
      | none => s
    else s

/-- The command in flight runs to its response where the host waits for it; a host that does not wait sees it one step at a time
(log entry 5). -/
def State.drive (s : State) : State := if s.hostWaits then s.runSteps s.work else s

end Sys2Proof.Machine
end

