-- ==== Sys2Proof/Machine/Codec.lean ====
section
/-! DEFINITION. The codec family: the commands ENCODE and DECODE, and the register block as the block packs and unpacks it inside
CFG_WRITE and CFG_READ (rows REGBLOCK and REGBLOCK_IN). -/

namespace Sys2Proof.Machine

/-- ENCODE (R100): a valid record is answered with its block, an invalid one with InvalidEnumValue and no block. -/
def execEncode (cfg : Configuration) (s : State) : Host.Outcome State Fault Refusal :=
  runCommand false (fun s => s.answer
    (if cfg.valid then { Response.bare .ok with blk := some (pack cfg) } else Response.bare .invalidEnumValue)) s

/-- DECODE (R101): every block is answered with its record. -/
def execDecode (blk : Block) (s : State) : Host.Outcome State Fault Refusal :=
  runCommand false (fun s => s.answer { Response.bare .ok with cfg := some (unpack blk) }) s

/-- REGBLOCK (R71, R76): the record is packed into BLKL, the row S_ENCODE of R153 (log entry 14). -/
def execRegblock (cfg : Configuration) (s : State) : Host.Outcome State Fault Refusal := .next (s.encodeRecord cfg)

/-- REGBLOCK_IN (R77): the block is unpacked into CFGL, the row S_DECODE of R153 (log entry 14). -/
def execRegblockIn (blk : Block) (s : State) : Host.Outcome State Fault Refusal := .next (s.decodeBlock blk)

end Sys2Proof.Machine
end

