-- ==== Sys2Proof/Machine/ConfigTransactions.lean ====
section
/-! DEFINITION. The configuration transaction family: CFG_READ and CFG_WRITE, and the request frames they put on the UART (rows
WIRE_READ_REQ and WIRE_WRITE_REQ). -/

namespace Sys2Proof.Machine

/-- CFG_READ (R150): into Program, one read exchange, back to Normal on every path, then the response. -/
def execCfgRead (s : State) : Host.Outcome State Fault Refusal :=
  runCommand true (fun s => (s.start codeCfgRead).drive) s

/-- CFG_WRITE (R151): the record is latched into CFGL; into Program, the encode step, one write exchange, back to Normal on every
path, then the response. -/
def execCfgWrite (cfg : Configuration) (s : State) : Host.Outcome State Fault Refusal :=
  runCommand true (fun s => ({ s with cfgl := cfg }.start codeCfgWrite).drive) s

/-- WIRE_READ_REQ (R51, R52): the read request goes out and the frame wait starts, the row S_TX of CFG_READ (log entry 14). -/
def execWireReadReq (s : State) : Host.Outcome State Fault Refusal := .next (s.sendFrame readRequest)

/-- WIRE_WRITE_REQ (R51, R53): the write request goes out and the frame wait starts, the row S_TX of CFG_WRITE (log entry 14). -/
def execWireWriteReq (blk : Block) (s : State) : Host.Outcome State Fault Refusal :=
  .next (s.sendFrame (writeRequest blk))

end Sys2Proof.Machine
end

