-- ==== Sys2Proof/Machine/LinePort.lean ====
section
/-! DEFINITION. The line port family: LINE_SEND and LINE_RECV. -/

namespace Sys2Proof.Machine

/-- LINE_SEND (R170): the text and one terminator are written, whatever MODE is; the block does not check the text. -/
def execLineSend (text : List Byte) (s : State) : Host.Outcome State Fault Refusal :=
  runCommand true (fun s => (s.uartWrite (text ++ [Config.newline])).answer (Response.bare .ok)) s

/-- LINE_RECV (R171): the first complete line leaves RXBUF and is answered without its terminator; with no terminator in RXBUF the
answer is "no data", which is no error, and RXBUF is unchanged. -/
def execLineRecv (s : State) : Host.Outcome State Fault Refusal :=
  runCommand true (fun s =>
    match splitLine s.rxbuf with
    | some (line, rest) =>
      { s with rxbuf := rest }.answer { Response.bare .ok with text := some line, hasData := some true }
    | none => s.answer { Response.bare .ok with hasData := some false }) s

end Sys2Proof.Machine
end

