-- ==== Sys2Proof/Machine/ModeController.lean ====
section
/-! DEFINITION. The mode controller family: INIT, GET_MODE, SET_MODE, and the mode-select pair as a transition drives it onto the
pins (rows MODE_Normal, MODE_WakeUp, MODE_PowerDown, MODE_Program). -/

namespace Sys2Proof.Machine

/-- INIT (R129): one full transition to Normal; may be issued whether INITED is 0 or 1. -/
def execInit (s : State) : Host.Outcome State Fault Refusal :=
  runCommand false (fun s => (s.start codeInit).drive) s

/-- GET_MODE (R130): answers the last mode set. -/
def execGetMode (s : State) : Host.Outcome State Fault Refusal :=
  runCommand true (fun s => s.answer { Response.bare .ok with mode := some s.mode }) s

/-- SET_MODE (R120): one full transition to the target, also where it is the current mode (R132). -/
def execSetMode (target : Mode) (s : State) : Host.Outcome State Fault Refusal :=
  runCommand true (fun s => (s.start (codeSetMode target)).drive) s

/-- MODE_Normal (R78): the pair (low, low) is driven, the row P_APPLY of R127 (log entry 14). -/
def execModeNormal (s : State) : Host.Outcome State Fault Refusal := .next (s.applyMode .normal)

/-- MODE_WakeUp (R78): the pair (high, low) is driven, the row P_APPLY of R127 (log entry 14). -/
def execModeWakeUp (s : State) : Host.Outcome State Fault Refusal := .next (s.applyMode .wakeUp)

/-- MODE_PowerDown (R78): the pair (low, high) is driven, the row P_APPLY of R127 (log entry 14). -/
def execModePowerDown (s : State) : Host.Outcome State Fault Refusal := .next (s.applyMode .powerDown)

/-- MODE_Program (R78): the pair (high, high) is driven, the row P_APPLY of R127 (log entry 14). -/
def execModeProgram (s : State) : Host.Outcome State Fault Refusal := .next (s.applyMode .program)

end Sys2Proof.Machine
end

