-- ==== Sys2Proof/Machine/Responses.lean ====
section
/-! DEFINITION. The status codes as the block presents them on the response port (rows STATUS_OK to STATUS_IllegalCommand; R84, log
entry 14). The four that end a command are the row S_RESPOND of R153; the three refusals change no state (R185). -/

namespace Sys2Proof.Machine

/-- STATUS_OK: the command in flight did what its rule says. -/
def execStatusOk (s : State) : Host.Outcome State Fault Refusal := .next (s.present .ok)

/-- STATUS_ShortRead: the response carries the bytes that arrived (R181). -/
def execStatusShortRead (s : State) : Host.Outcome State Fault Refusal := .next (s.present .shortRead)

/-- STATUS_TransportTimeout (R182). -/
def execStatusTransportTimeout (s : State) : Host.Outcome State Fault Refusal := .next (s.present .transportTimeout)

/-- STATUS_InvalidEnumValue (R183). -/
def execStatusInvalidEnumValue (s : State) : Host.Outcome State Fault Refusal := .next (s.present .invalidEnumValue)

/-- STATUS_Busy: a command presented while BUSY is 1 is declined (R185). -/
def execStatusBusy (s : State) : Host.Outcome State Fault Refusal := .next (s.present .busy)

/-- STATUS_NotInitialised: a command that needs INITED is declined (R185). -/
def execStatusNotInitialised (s : State) : Host.Outcome State Fault Refusal := .next (s.present .notInitialised)

/-- STATUS_IllegalCommand: an undefined code is declined (R85, R185). -/
def execStatusIllegalCommand (s : State) : Host.Outcome State Fault Refusal := .next (s.present .illegalCommand)

end Sys2Proof.Machine
end

