-- ==== Sys2Proof/Machine/Dispatch.lean ====
section
/-! DEFINITION. exec: one arm per constructor of Instr. -/

namespace Sys2Proof.Machine

def exec (i : Instr) (s : State) : Host.Outcome State Fault Refusal :=
  match i with
  -- the host's commands
  | .init => Sys2Proof.Machine.execInit s
  | .getMode => Sys2Proof.Machine.execGetMode s
  | .setMode target => Sys2Proof.Machine.execSetMode target s
  | .encode cfg => Sys2Proof.Machine.execEncode cfg s
  | .decode blk => Sys2Proof.Machine.execDecode blk s
  | .cfgRead => Sys2Proof.Machine.execCfgRead s
  | .cfgWrite cfg => Sys2Proof.Machine.execCfgWrite cfg s
  | .lineSend text => Sys2Proof.Machine.execLineSend text s
  | .lineRecv => Sys2Proof.Machine.execLineRecv s
  -- the words of the block's own formats
  | .regblock cfg => Sys2Proof.Machine.execRegblock cfg s
  | .regblockIn blk => Sys2Proof.Machine.execRegblockIn blk s
  | .wireReadReq => Sys2Proof.Machine.execWireReadReq s
  | .wireWriteReq blk => Sys2Proof.Machine.execWireWriteReq blk s
  | .modeNormal => Sys2Proof.Machine.execModeNormal s
  | .modeWakeUp => Sys2Proof.Machine.execModeWakeUp s
  | .modePowerDown => Sys2Proof.Machine.execModePowerDown s
  | .modeProgram => Sys2Proof.Machine.execModeProgram s
  | .statusOk => Sys2Proof.Machine.execStatusOk s
  | .statusShortRead => Sys2Proof.Machine.execStatusShortRead s
  | .statusTransportTimeout => Sys2Proof.Machine.execStatusTransportTimeout s
  | .statusInvalidEnumValue => Sys2Proof.Machine.execStatusInvalidEnumValue s
  | .statusBusy => Sys2Proof.Machine.execStatusBusy s
  | .statusNotInitialised => Sys2Proof.Machine.execStatusNotInitialised s
  | .statusIllegalCommand => Sys2Proof.Machine.execStatusIllegalCommand s

end Sys2Proof.Machine
end

