-- ==== Sys2Proof/Machine/Step.lean ====
section
/-! DEFINITION. One step of the machine, and how the host's two questions put a word where the step finds it. -/

namespace Sys2Proof.Machine

/-- One step. The environment acts first (R57). Where the host presents a command, the decoder reads it: an undefined code is refused
with IllegalCommand, even when the block is busy (R85, R188); any other command is exec of its instruction, in the state after
the environment's act. Where the host resets the block, it is reset. Otherwise a command in flight goes on by one row. -/
def step (s : State) : Host.Outcome State Fault Refusal :=
  match s.host.head? with
  | some (.present p waits) =>
    match decode (.command p) with
    | .ok i =>
      if s.stepStart.admits i then exec i { s.stepStart with hostWaits := waits } else .refused .newlineInText
    | .error _ => .next ({ s.stepStart with hostWaits := waits }.refuse .illegalCommand)
  | some .reset => .next s.stepStart.resetBlock
  | some .nothing => s.stepStart.quiet s.draw.aux
  | none => s.stepStart.quiet s.draw.aux

/-- The state with a word of the opcode table stored where the next step finds it: a command on the host's port; any other word in
the latch that the sequencer takes it from, at the row that does so (log entries 14 and 15). A word that is no instruction is
stored nowhere, but for an undefined command code, which the host presents. -/
def State.withFetchWord (s : State) (nbits w : Nat) : State :=
  match tableWord nbits w with
  | .command p => { s with host := .present p true :: s.host }
  | .modeSelect m =>
    { s with host := .nothing :: s.host, busy := true, seq := .enter, phase := .apply, target := Mode.ofCode m }
  | .status c =>
    match Status.ofCode c with
    | some st => { s with host := .nothing :: s.host, busy := true, seq := .respond, phase := .idle, err := st }
    | none => s
  | .blockOut b =>
    { s with host := .nothing :: s.host, busy := true, seq := .encode, phase := .idle, cmdl := codeCfgWrite, cfgl := unpack b }
  | .blockIn b =>
    { s with host := .nothing :: s.host, busy := true, seq := .decode, phase := .idle, cmdl := codeCfgRead, blkl := b }
  | .wire bytes =>
    match decodeWire bytes with
    | .ok .wireReadReq =>
      { s with host := .nothing :: s.host, busy := true, seq := .tx, phase := .idle, cmdl := codeCfgRead }
    | .ok (.wireWriteReq b) =>
      { s with host := .nothing :: s.host, busy := true, seq := .tx, phase := .idle, cmdl := codeCfgWrite, blkl := b }
    | _ => s

end Sys2Proof.Machine
end

