-- ==== Sys2Proof/Laws/State.lean ====
section
/-! SUPPORT. One lemma per field per update of State: what each named operation leaves in each field. -/

namespace Sys2Proof.Machine.State

/-! ### pass -/

@[simp] theorem pass_seq (s : State) (d : Nat) : (s.pass d).seq = s.seq := rfl
@[simp] theorem pass_phase (s : State) (d : Nat) : (s.pass d).phase = s.phase := rfl
@[simp] theorem pass_mode (s : State) (d : Nat) : (s.pass d).mode = s.mode := rfl
@[simp] theorem pass_msA (s : State) (d : Nat) : (s.pass d).msA = s.msA := rfl
@[simp] theorem pass_msB (s : State) (d : Nat) : (s.pass d).msB = s.msB := rfl
@[simp] theorem pass_inited (s : State) (d : Nat) : (s.pass d).inited = s.inited := rfl
@[simp] theorem pass_busy (s : State) (d : Nat) : (s.pass d).busy = s.busy := rfl
@[simp] theorem pass_warn (s : State) (d : Nat) : (s.pass d).warn = s.warn := rfl
@[simp] theorem pass_err (s : State) (d : Nat) : (s.pass d).err = s.err := rfl
@[simp] theorem pass_errBytes (s : State) (d : Nat) : (s.pass d).errBytes = s.errBytes := rfl
@[simp] theorem pass_errCnt (s : State) (d : Nat) : (s.pass d).errCnt = s.errCnt := rfl
@[simp] theorem pass_target (s : State) (d : Nat) : (s.pass d).target = s.target := rfl
@[simp] theorem pass_tmr (s : State) (d : Nat) : (s.pass d).tmr = s.tmr - d := rfl
@[simp] theorem pass_t0 (s : State) (d : Nat) : (s.pass d).t0 = s.t0 := rfl
@[simp] theorem pass_ft0 (s : State) (d : Nat) : (s.pass d).ft0 = s.ft0 := rfl
@[simp] theorem pass_rxbuf (s : State) (d : Nat) : (s.pass d).rxbuf = s.rxbuf := rfl
@[simp] theorem pass_txlog (s : State) (d : Nat) : (s.pass d).txlog = s.txlog := rfl
@[simp] theorem pass_cmdl (s : State) (d : Nat) : (s.pass d).cmdl = s.cmdl := rfl
@[simp] theorem pass_cfgl (s : State) (d : Nat) : (s.pass d).cfgl = s.cfgl := rfl
@[simp] theorem pass_blkl (s : State) (d : Nat) : (s.pass d).blkl = s.blkl := rfl
@[simp] theorem pass_rspValid (s : State) (d : Nat) : (s.pass d).rspValid = s.rspValid := rfl
@[simp] theorem pass_rsp (s : State) (d : Nat) : (s.pass d).rsp = s.rsp := rfl
@[simp] theorem pass_par (s : State) (d : Nat) : (s.pass d).par = s.par := rfl
@[simp] theorem pass_now (s : State) (d : Nat) : (s.pass d).now = s.now + d := rfl
@[simp] theorem pass_env (s : State) (d : Nat) : (s.pass d).env = s.env := rfl
@[simp] theorem pass_draws (s : State) (d : Nat) : (s.pass d).draws = s.draws := rfl
@[simp] theorem pass_frees (s : State) (d : Nat) : (s.pass d).frees = s.frees := rfl
@[simp] theorem pass_host (s : State) (d : Nat) : (s.pass d).host = s.host := rfl
@[simp] theorem pass_hostWaits (s : State) (d : Nat) : (s.pass d).hostWaits = s.hostWaits := rfl

/-! ### envStep -/

@[simp] theorem envStep_seq (s : State) : s.envStep.seq = s.seq := rfl
@[simp] theorem envStep_phase (s : State) : s.envStep.phase = s.phase := rfl
@[simp] theorem envStep_mode (s : State) : s.envStep.mode = s.mode := rfl
@[simp] theorem envStep_msA (s : State) : s.envStep.msA = s.msA := rfl
@[simp] theorem envStep_msB (s : State) : s.envStep.msB = s.msB := rfl
@[simp] theorem envStep_inited (s : State) : s.envStep.inited = s.inited := rfl
@[simp] theorem envStep_busy (s : State) : s.envStep.busy = s.busy := rfl
@[simp] theorem envStep_warn (s : State) : s.envStep.warn = s.warn := rfl
@[simp] theorem envStep_err (s : State) : s.envStep.err = s.err := rfl
@[simp] theorem envStep_errBytes (s : State) : s.envStep.errBytes = s.errBytes := rfl
@[simp] theorem envStep_errCnt (s : State) : s.envStep.errCnt = s.errCnt := rfl
@[simp] theorem envStep_target (s : State) : s.envStep.target = s.target := rfl
@[simp] theorem envStep_tmr (s : State) : s.envStep.tmr = s.tmr - s.draw.dt := rfl
@[simp] theorem envStep_t0 (s : State) : s.envStep.t0 = s.t0 := rfl
@[simp] theorem envStep_ft0 (s : State) : s.envStep.ft0 = s.ft0 := rfl
@[simp] theorem envStep_rxbuf (s : State) : s.envStep.rxbuf = s.rxbuf ++ s.draw.arrive := rfl
@[simp] theorem envStep_txlog (s : State) : s.envStep.txlog = s.txlog := rfl
@[simp] theorem envStep_cmdl (s : State) : s.envStep.cmdl = s.cmdl := rfl
@[simp] theorem envStep_cfgl (s : State) : s.envStep.cfgl = s.cfgl := rfl
@[simp] theorem envStep_blkl (s : State) : s.envStep.blkl = s.blkl := rfl
@[simp] theorem envStep_rspValid (s : State) : s.envStep.rspValid = s.rspValid := rfl
@[simp] theorem envStep_rsp (s : State) : s.envStep.rsp = s.rsp := rfl
@[simp] theorem envStep_par (s : State) : s.envStep.par = s.par := rfl
@[simp] theorem envStep_now (s : State) : s.envStep.now = s.now + s.draw.dt := rfl
@[simp] theorem envStep_env (s : State) : s.envStep.env = s.env.tail := rfl
@[simp] theorem envStep_draws (s : State) : s.envStep.draws = s.draws + 1 := rfl
@[simp] theorem envStep_frees (s : State) : s.envStep.frees = s.frees := rfl
@[simp] theorem envStep_host (s : State) : s.envStep.host = s.host := rfl
@[simp] theorem envStep_hostWaits (s : State) : s.envStep.hostWaits = s.hostWaits := rfl

/-! ### acceptFlags -/

@[simp] theorem acceptFlags_seq (s : State) : s.acceptFlags.seq = s.seq := rfl
@[simp] theorem acceptFlags_phase (s : State) : s.acceptFlags.phase = s.phase := rfl
@[simp] theorem acceptFlags_mode (s : State) : s.acceptFlags.mode = s.mode := rfl
@[simp] theorem acceptFlags_msA (s : State) : s.acceptFlags.msA = s.msA := rfl
@[simp] theorem acceptFlags_msB (s : State) : s.acceptFlags.msB = s.msB := rfl
@[simp] theorem acceptFlags_inited (s : State) : s.acceptFlags.inited = s.inited := rfl
@[simp] theorem acceptFlags_busy (s : State) : s.acceptFlags.busy = true := rfl
@[simp] theorem acceptFlags_warn (s : State) : s.acceptFlags.warn = false := rfl
@[simp] theorem acceptFlags_err (s : State) : s.acceptFlags.err = .ok := rfl
@[simp] theorem acceptFlags_errBytes (s : State) : s.acceptFlags.errBytes = [] := rfl
@[simp] theorem acceptFlags_errCnt (s : State) : s.acceptFlags.errCnt = 0 := rfl
@[simp] theorem acceptFlags_target (s : State) : s.acceptFlags.target = s.target := rfl
@[simp] theorem acceptFlags_tmr (s : State) : s.acceptFlags.tmr = s.tmr := rfl
@[simp] theorem acceptFlags_t0 (s : State) : s.acceptFlags.t0 = s.t0 := rfl
@[simp] theorem acceptFlags_ft0 (s : State) : s.acceptFlags.ft0 = s.ft0 := rfl
@[simp] theorem acceptFlags_rxbuf (s : State) : s.acceptFlags.rxbuf = s.rxbuf := rfl
@[simp] theorem acceptFlags_txlog (s : State) : s.acceptFlags.txlog = s.txlog := rfl
@[simp] theorem acceptFlags_cmdl (s : State) : s.acceptFlags.cmdl = s.cmdl := rfl
@[simp] theorem acceptFlags_cfgl (s : State) : s.acceptFlags.cfgl = s.cfgl := rfl
@[simp] theorem acceptFlags_blkl (s : State) : s.acceptFlags.blkl = s.blkl := rfl
@[simp] theorem acceptFlags_rspValid (s : State) : s.acceptFlags.rspValid = s.rspValid := rfl
@[simp] theorem acceptFlags_rsp (s : State) : s.acceptFlags.rsp = s.rsp := rfl
@[simp] theorem acceptFlags_par (s : State) : s.acceptFlags.par = s.par := rfl
@[simp] theorem acceptFlags_now (s : State) : s.acceptFlags.now = s.now := rfl
@[simp] theorem acceptFlags_env (s : State) : s.acceptFlags.env = s.env := rfl
@[simp] theorem acceptFlags_draws (s : State) : s.acceptFlags.draws = s.draws := rfl
@[simp] theorem acceptFlags_frees (s : State) : s.acceptFlags.frees = s.frees := rfl
@[simp] theorem acceptFlags_host (s : State) : s.acceptFlags.host = s.host := rfl
@[simp] theorem acceptFlags_hostWaits (s : State) : s.acceptFlags.hostWaits = s.hostWaits := rfl

/-! ### setWarn -/

@[simp] theorem setWarn_seq (s : State) : s.setWarn.seq = s.seq := rfl
@[simp] theorem setWarn_phase (s : State) : s.setWarn.phase = s.phase := rfl
@[simp] theorem setWarn_mode (s : State) : s.setWarn.mode = s.mode := rfl
@[simp] theorem setWarn_msA (s : State) : s.setWarn.msA = s.msA := rfl
@[simp] theorem setWarn_msB (s : State) : s.setWarn.msB = s.msB := rfl
@[simp] theorem setWarn_inited (s : State) : s.setWarn.inited = s.inited := rfl
@[simp] theorem setWarn_busy (s : State) : s.setWarn.busy = s.busy := rfl
@[simp] theorem setWarn_warn (s : State) : s.setWarn.warn = true := rfl
@[simp] theorem setWarn_err (s : State) : s.setWarn.err = s.err := rfl
@[simp] theorem setWarn_errBytes (s : State) : s.setWarn.errBytes = s.errBytes := rfl
@[simp] theorem setWarn_errCnt (s : State) : s.setWarn.errCnt = s.errCnt := rfl
@[simp] theorem setWarn_target (s : State) : s.setWarn.target = s.target := rfl
@[simp] theorem setWarn_tmr (s : State) : s.setWarn.tmr = s.tmr := rfl
@[simp] theorem setWarn_t0 (s : State) : s.setWarn.t0 = s.t0 := rfl
@[simp] theorem setWarn_ft0 (s : State) : s.setWarn.ft0 = s.ft0 := rfl
@[simp] theorem setWarn_rxbuf (s : State) : s.setWarn.rxbuf = s.rxbuf := rfl
@[simp] theorem setWarn_txlog (s : State) : s.setWarn.txlog = s.txlog := rfl
@[simp] theorem setWarn_cmdl (s : State) : s.setWarn.cmdl = s.cmdl := rfl
@[simp] theorem setWarn_cfgl (s : State) : s.setWarn.cfgl = s.cfgl := rfl
@[simp] theorem setWarn_blkl (s : State) : s.setWarn.blkl = s.blkl := rfl
@[simp] theorem setWarn_rspValid (s : State) : s.setWarn.rspValid = s.rspValid := rfl
@[simp] theorem setWarn_rsp (s : State) : s.setWarn.rsp = s.rsp := rfl
@[simp] theorem setWarn_par (s : State) : s.setWarn.par = s.par := rfl
@[simp] theorem setWarn_now (s : State) : s.setWarn.now = s.now := rfl
@[simp] theorem setWarn_env (s : State) : s.setWarn.env = s.env := rfl
@[simp] theorem setWarn_draws (s : State) : s.setWarn.draws = s.draws := rfl
@[simp] theorem setWarn_frees (s : State) : s.setWarn.frees = s.frees := rfl
@[simp] theorem setWarn_host (s : State) : s.setWarn.host = s.host := rfl
@[simp] theorem setWarn_hostWaits (s : State) : s.setWarn.hostWaits = s.hostWaits := rfl

/-! ### latchError -/

@[simp] theorem latchError_seq (s : State) (e : Status) (bs : List Byte) : (s.latchError e bs).seq = s.seq := rfl
@[simp] theorem latchError_phase (s : State) (e : Status) (bs : List Byte) : (s.latchError e bs).phase = s.phase := rfl
@[simp] theorem latchError_mode (s : State) (e : Status) (bs : List Byte) : (s.latchError e bs).mode = s.mode := rfl
@[simp] theorem latchError_msA (s : State) (e : Status) (bs : List Byte) : (s.latchError e bs).msA = s.msA := rfl
@[simp] theorem latchError_msB (s : State) (e : Status) (bs : List Byte) : (s.latchError e bs).msB = s.msB := rfl
@[simp] theorem latchError_inited (s : State) (e : Status) (bs : List Byte) : (s.latchError e bs).inited = s.inited := rfl
@[simp] theorem latchError_busy (s : State) (e : Status) (bs : List Byte) : (s.latchError e bs).busy = s.busy := rfl
@[simp] theorem latchError_warn (s : State) (e : Status) (bs : List Byte) : (s.latchError e bs).warn = s.warn := rfl
@[simp] theorem latchError_err (s : State) (e : Status) (bs : List Byte) : (s.latchError e bs).err = e := rfl
@[simp] theorem latchError_errBytes (s : State) (e : Status) (bs : List Byte) : (s.latchError e bs).errBytes = bs := rfl
@[simp] theorem latchError_errCnt (s : State) (e : Status) (bs : List Byte) : (s.latchError e bs).errCnt = BitVec.ofNat 4 bs.length := rfl
@[simp] theorem latchError_target (s : State) (e : Status) (bs : List Byte) : (s.latchError e bs).target = s.target := rfl
@[simp] theorem latchError_tmr (s : State) (e : Status) (bs : List Byte) : (s.latchError e bs).tmr = s.tmr := rfl
@[simp] theorem latchError_t0 (s : State) (e : Status) (bs : List Byte) : (s.latchError e bs).t0 = s.t0 := rfl
@[simp] theorem latchError_ft0 (s : State) (e : Status) (bs : List Byte) : (s.latchError e bs).ft0 = s.ft0 := rfl
@[simp] theorem latchError_rxbuf (s : State) (e : Status) (bs : List Byte) : (s.latchError e bs).rxbuf = s.rxbuf := rfl
@[simp] theorem latchError_txlog (s : State) (e : Status) (bs : List Byte) : (s.latchError e bs).txlog = s.txlog := rfl
@[simp] theorem latchError_cmdl (s : State) (e : Status) (bs : List Byte) : (s.latchError e bs).cmdl = s.cmdl := rfl
@[simp] theorem latchError_cfgl (s : State) (e : Status) (bs : List Byte) : (s.latchError e bs).cfgl = s.cfgl := rfl
@[simp] theorem latchError_blkl (s : State) (e : Status) (bs : List Byte) : (s.latchError e bs).blkl = s.blkl := rfl
@[simp] theorem latchError_rspValid (s : State) (e : Status) (bs : List Byte) : (s.latchError e bs).rspValid = s.rspValid := rfl
@[simp] theorem latchError_rsp (s : State) (e : Status) (bs : List Byte) : (s.latchError e bs).rsp = s.rsp := rfl
@[simp] theorem latchError_par (s : State) (e : Status) (bs : List Byte) : (s.latchError e bs).par = s.par := rfl
@[simp] theorem latchError_now (s : State) (e : Status) (bs : List Byte) : (s.latchError e bs).now = s.now := rfl
@[simp] theorem latchError_env (s : State) (e : Status) (bs : List Byte) : (s.latchError e bs).env = s.env := rfl
@[simp] theorem latchError_draws (s : State) (e : Status) (bs : List Byte) : (s.latchError e bs).draws = s.draws := rfl
@[simp] theorem latchError_frees (s : State) (e : Status) (bs : List Byte) : (s.latchError e bs).frees = s.frees := rfl
@[simp] theorem latchError_host (s : State) (e : Status) (bs : List Byte) : (s.latchError e bs).host = s.host := rfl
@[simp] theorem latchError_hostWaits (s : State) (e : Status) (bs : List Byte) : (s.latchError e bs).hostWaits = s.hostWaits := rfl

/-! ### applyMode -/

@[simp] theorem applyMode_seq (s : State) (m : Mode) : (s.applyMode m).seq = s.seq := rfl
@[simp] theorem applyMode_phase (s : State) (m : Mode) : (s.applyMode m).phase = .settle2 := rfl
@[simp] theorem applyMode_mode (s : State) (m : Mode) : (s.applyMode m).mode = m := rfl
@[simp] theorem applyMode_msA (s : State) (m : Mode) : (s.applyMode m).msA = m.lineA := rfl
@[simp] theorem applyMode_msB (s : State) (m : Mode) : (s.applyMode m).msB = m.lineB := rfl
@[simp] theorem applyMode_inited (s : State) (m : Mode) : (s.applyMode m).inited = true := rfl
@[simp] theorem applyMode_busy (s : State) (m : Mode) : (s.applyMode m).busy = s.busy := rfl
@[simp] theorem applyMode_warn (s : State) (m : Mode) : (s.applyMode m).warn = s.warn := rfl
@[simp] theorem applyMode_err (s : State) (m : Mode) : (s.applyMode m).err = s.err := rfl
@[simp] theorem applyMode_errBytes (s : State) (m : Mode) : (s.applyMode m).errBytes = s.errBytes := rfl
@[simp] theorem applyMode_errCnt (s : State) (m : Mode) : (s.applyMode m).errCnt = s.errCnt := rfl
@[simp] theorem applyMode_target (s : State) (m : Mode) : (s.applyMode m).target = s.target := rfl
@[simp] theorem applyMode_tmr (s : State) (m : Mode) : (s.applyMode m).tmr = s.par.settleMs := rfl
@[simp] theorem applyMode_t0 (s : State) (m : Mode) : (s.applyMode m).t0 = s.t0 := rfl
@[simp] theorem applyMode_ft0 (s : State) (m : Mode) : (s.applyMode m).ft0 = s.ft0 := rfl
@[simp] theorem applyMode_rxbuf (s : State) (m : Mode) : (s.applyMode m).rxbuf = s.rxbuf := rfl
@[simp] theorem applyMode_txlog (s : State) (m : Mode) : (s.applyMode m).txlog = s.txlog := rfl
@[simp] theorem applyMode_cmdl (s : State) (m : Mode) : (s.applyMode m).cmdl = s.cmdl := rfl
@[simp] theorem applyMode_cfgl (s : State) (m : Mode) : (s.applyMode m).cfgl = s.cfgl := rfl
@[simp] theorem applyMode_blkl (s : State) (m : Mode) : (s.applyMode m).blkl = s.blkl := rfl
@[simp] theorem applyMode_rspValid (s : State) (m : Mode) : (s.applyMode m).rspValid = s.rspValid := rfl
@[simp] theorem applyMode_rsp (s : State) (m : Mode) : (s.applyMode m).rsp = s.rsp := rfl
@[simp] theorem applyMode_par (s : State) (m : Mode) : (s.applyMode m).par = s.par := rfl
@[simp] theorem applyMode_now (s : State) (m : Mode) : (s.applyMode m).now = s.now := rfl
@[simp] theorem applyMode_env (s : State) (m : Mode) : (s.applyMode m).env = s.env := rfl
@[simp] theorem applyMode_draws (s : State) (m : Mode) : (s.applyMode m).draws = s.draws := rfl
@[simp] theorem applyMode_frees (s : State) (m : Mode) : (s.applyMode m).frees = s.frees := rfl
@[simp] theorem applyMode_host (s : State) (m : Mode) : (s.applyMode m).host = s.host := rfl
@[simp] theorem applyMode_hostWaits (s : State) (m : Mode) : (s.applyMode m).hostWaits = s.hostWaits := rfl

/-! ### uartWrite -/

@[simp] theorem uartWrite_seq (s : State) (bs : List Byte) : (s.uartWrite bs).seq = s.seq := rfl
@[simp] theorem uartWrite_phase (s : State) (bs : List Byte) : (s.uartWrite bs).phase = s.phase := rfl
@[simp] theorem uartWrite_mode (s : State) (bs : List Byte) : (s.uartWrite bs).mode = s.mode := rfl
@[simp] theorem uartWrite_msA (s : State) (bs : List Byte) : (s.uartWrite bs).msA = s.msA := rfl
@[simp] theorem uartWrite_msB (s : State) (bs : List Byte) : (s.uartWrite bs).msB = s.msB := rfl
@[simp] theorem uartWrite_inited (s : State) (bs : List Byte) : (s.uartWrite bs).inited = s.inited := rfl
@[simp] theorem uartWrite_busy (s : State) (bs : List Byte) : (s.uartWrite bs).busy = s.busy := rfl
@[simp] theorem uartWrite_warn (s : State) (bs : List Byte) : (s.uartWrite bs).warn = s.warn := rfl
@[simp] theorem uartWrite_err (s : State) (bs : List Byte) : (s.uartWrite bs).err = s.err := rfl
@[simp] theorem uartWrite_errBytes (s : State) (bs : List Byte) : (s.uartWrite bs).errBytes = s.errBytes := rfl
@[simp] theorem uartWrite_errCnt (s : State) (bs : List Byte) : (s.uartWrite bs).errCnt = s.errCnt := rfl
@[simp] theorem uartWrite_target (s : State) (bs : List Byte) : (s.uartWrite bs).target = s.target := rfl
@[simp] theorem uartWrite_tmr (s : State) (bs : List Byte) : (s.uartWrite bs).tmr = s.tmr := rfl
@[simp] theorem uartWrite_t0 (s : State) (bs : List Byte) : (s.uartWrite bs).t0 = s.t0 := rfl
@[simp] theorem uartWrite_ft0 (s : State) (bs : List Byte) : (s.uartWrite bs).ft0 = s.ft0 := rfl
@[simp] theorem uartWrite_rxbuf (s : State) (bs : List Byte) : (s.uartWrite bs).rxbuf = s.rxbuf := rfl
@[simp] theorem uartWrite_txlog (s : State) (bs : List Byte) : (s.uartWrite bs).txlog = s.txlog ++ bs := rfl
@[simp] theorem uartWrite_cmdl (s : State) (bs : List Byte) : (s.uartWrite bs).cmdl = s.cmdl := rfl
@[simp] theorem uartWrite_cfgl (s : State) (bs : List Byte) : (s.uartWrite bs).cfgl = s.cfgl := rfl
@[simp] theorem uartWrite_blkl (s : State) (bs : List Byte) : (s.uartWrite bs).blkl = s.blkl := rfl
@[simp] theorem uartWrite_rspValid (s : State) (bs : List Byte) : (s.uartWrite bs).rspValid = s.rspValid := rfl
@[simp] theorem uartWrite_rsp (s : State) (bs : List Byte) : (s.uartWrite bs).rsp = s.rsp := rfl
@[simp] theorem uartWrite_par (s : State) (bs : List Byte) : (s.uartWrite bs).par = s.par := rfl
@[simp] theorem uartWrite_now (s : State) (bs : List Byte) : (s.uartWrite bs).now = s.now := rfl
@[simp] theorem uartWrite_env (s : State) (bs : List Byte) : (s.uartWrite bs).env = s.env := rfl
@[simp] theorem uartWrite_draws (s : State) (bs : List Byte) : (s.uartWrite bs).draws = s.draws := rfl
@[simp] theorem uartWrite_frees (s : State) (bs : List Byte) : (s.uartWrite bs).frees = s.frees := rfl
@[simp] theorem uartWrite_host (s : State) (bs : List Byte) : (s.uartWrite bs).host = s.host := rfl
@[simp] theorem uartWrite_hostWaits (s : State) (bs : List Byte) : (s.uartWrite bs).hostWaits = s.hostWaits := rfl

/-! ### uartDrain -/

@[simp] theorem uartDrain_seq (s : State) : s.uartDrain.seq = s.seq := rfl
@[simp] theorem uartDrain_phase (s : State) : s.uartDrain.phase = s.phase := rfl
@[simp] theorem uartDrain_mode (s : State) : s.uartDrain.mode = s.mode := rfl
@[simp] theorem uartDrain_msA (s : State) : s.uartDrain.msA = s.msA := rfl
@[simp] theorem uartDrain_msB (s : State) : s.uartDrain.msB = s.msB := rfl
@[simp] theorem uartDrain_inited (s : State) : s.uartDrain.inited = s.inited := rfl
@[simp] theorem uartDrain_busy (s : State) : s.uartDrain.busy = s.busy := rfl
@[simp] theorem uartDrain_warn (s : State) : s.uartDrain.warn = s.warn := rfl
@[simp] theorem uartDrain_err (s : State) : s.uartDrain.err = s.err := rfl
@[simp] theorem uartDrain_errBytes (s : State) : s.uartDrain.errBytes = s.errBytes := rfl
@[simp] theorem uartDrain_errCnt (s : State) : s.uartDrain.errCnt = s.errCnt := rfl
@[simp] theorem uartDrain_target (s : State) : s.uartDrain.target = s.target := rfl
@[simp] theorem uartDrain_tmr (s : State) : s.uartDrain.tmr = s.tmr := rfl
@[simp] theorem uartDrain_t0 (s : State) : s.uartDrain.t0 = s.t0 := rfl
@[simp] theorem uartDrain_ft0 (s : State) : s.uartDrain.ft0 = s.ft0 := rfl
@[simp] theorem uartDrain_rxbuf (s : State) : s.uartDrain.rxbuf = [] := rfl
@[simp] theorem uartDrain_txlog (s : State) : s.uartDrain.txlog = s.txlog := rfl
@[simp] theorem uartDrain_cmdl (s : State) : s.uartDrain.cmdl = s.cmdl := rfl
@[simp] theorem uartDrain_cfgl (s : State) : s.uartDrain.cfgl = s.cfgl := rfl
@[simp] theorem uartDrain_blkl (s : State) : s.uartDrain.blkl = s.blkl := rfl
@[simp] theorem uartDrain_rspValid (s : State) : s.uartDrain.rspValid = s.rspValid := rfl
@[simp] theorem uartDrain_rsp (s : State) : s.uartDrain.rsp = s.rsp := rfl
@[simp] theorem uartDrain_par (s : State) : s.uartDrain.par = s.par := rfl
@[simp] theorem uartDrain_now (s : State) : s.uartDrain.now = s.now := rfl
@[simp] theorem uartDrain_env (s : State) : s.uartDrain.env = s.env := rfl
@[simp] theorem uartDrain_draws (s : State) : s.uartDrain.draws = s.draws := rfl
@[simp] theorem uartDrain_frees (s : State) : s.uartDrain.frees = s.frees := rfl
@[simp] theorem uartDrain_host (s : State) : s.uartDrain.host = s.host := rfl
@[simp] theorem uartDrain_hostWaits (s : State) : s.uartDrain.hostWaits = s.hostWaits := rfl

/-! ### takeBytes -/

@[simp] theorem takeBytes_seq (s : State) (n : Nat) : (s.takeBytes n).seq = s.seq := rfl
@[simp] theorem takeBytes_phase (s : State) (n : Nat) : (s.takeBytes n).phase = s.phase := rfl
@[simp] theorem takeBytes_mode (s : State) (n : Nat) : (s.takeBytes n).mode = s.mode := rfl
@[simp] theorem takeBytes_msA (s : State) (n : Nat) : (s.takeBytes n).msA = s.msA := rfl
@[simp] theorem takeBytes_msB (s : State) (n : Nat) : (s.takeBytes n).msB = s.msB := rfl
@[simp] theorem takeBytes_inited (s : State) (n : Nat) : (s.takeBytes n).inited = s.inited := rfl
@[simp] theorem takeBytes_busy (s : State) (n : Nat) : (s.takeBytes n).busy = s.busy := rfl
@[simp] theorem takeBytes_warn (s : State) (n : Nat) : (s.takeBytes n).warn = s.warn := rfl
@[simp] theorem takeBytes_err (s : State) (n : Nat) : (s.takeBytes n).err = s.err := rfl
@[simp] theorem takeBytes_errBytes (s : State) (n : Nat) : (s.takeBytes n).errBytes = s.errBytes := rfl
@[simp] theorem takeBytes_errCnt (s : State) (n : Nat) : (s.takeBytes n).errCnt = s.errCnt := rfl
@[simp] theorem takeBytes_target (s : State) (n : Nat) : (s.takeBytes n).target = s.target := rfl
@[simp] theorem takeBytes_tmr (s : State) (n : Nat) : (s.takeBytes n).tmr = s.tmr := rfl
@[simp] theorem takeBytes_t0 (s : State) (n : Nat) : (s.takeBytes n).t0 = s.t0 := rfl
@[simp] theorem takeBytes_ft0 (s : State) (n : Nat) : (s.takeBytes n).ft0 = s.ft0 := rfl
@[simp] theorem takeBytes_rxbuf (s : State) (n : Nat) : (s.takeBytes n).rxbuf = s.rxbuf.drop n := rfl
@[simp] theorem takeBytes_txlog (s : State) (n : Nat) : (s.takeBytes n).txlog = s.txlog := rfl
@[simp] theorem takeBytes_cmdl (s : State) (n : Nat) : (s.takeBytes n).cmdl = s.cmdl := rfl
@[simp] theorem takeBytes_cfgl (s : State) (n : Nat) : (s.takeBytes n).cfgl = s.cfgl := rfl
@[simp] theorem takeBytes_blkl (s : State) (n : Nat) : (s.takeBytes n).blkl = s.blkl := rfl
@[simp] theorem takeBytes_rspValid (s : State) (n : Nat) : (s.takeBytes n).rspValid = s.rspValid := rfl
@[simp] theorem takeBytes_rsp (s : State) (n : Nat) : (s.takeBytes n).rsp = s.rsp := rfl
@[simp] theorem takeBytes_par (s : State) (n : Nat) : (s.takeBytes n).par = s.par := rfl
@[simp] theorem takeBytes_now (s : State) (n : Nat) : (s.takeBytes n).now = s.now := rfl
@[simp] theorem takeBytes_env (s : State) (n : Nat) : (s.takeBytes n).env = s.env := rfl
@[simp] theorem takeBytes_draws (s : State) (n : Nat) : (s.takeBytes n).draws = s.draws := rfl
@[simp] theorem takeBytes_frees (s : State) (n : Nat) : (s.takeBytes n).frees = s.frees := rfl
@[simp] theorem takeBytes_host (s : State) (n : Nat) : (s.takeBytes n).host = s.host := rfl
@[simp] theorem takeBytes_hostWaits (s : State) (n : Nat) : (s.takeBytes n).hostWaits = s.hostWaits := rfl

/-! ### answer -/

@[simp] theorem answer_seq (s : State) (r : Response) : (s.answer r).seq = s.seq := rfl
@[simp] theorem answer_phase (s : State) (r : Response) : (s.answer r).phase = s.phase := rfl
@[simp] theorem answer_mode (s : State) (r : Response) : (s.answer r).mode = s.mode := rfl
@[simp] theorem answer_msA (s : State) (r : Response) : (s.answer r).msA = s.msA := rfl
@[simp] theorem answer_msB (s : State) (r : Response) : (s.answer r).msB = s.msB := rfl
@[simp] theorem answer_inited (s : State) (r : Response) : (s.answer r).inited = s.inited := rfl
@[simp] theorem answer_busy (s : State) (r : Response) : (s.answer r).busy = s.busy := rfl
@[simp] theorem answer_warn (s : State) (r : Response) : (s.answer r).warn = s.warn := rfl
@[simp] theorem answer_err (s : State) (r : Response) : (s.answer r).err = s.err := rfl
@[simp] theorem answer_errBytes (s : State) (r : Response) : (s.answer r).errBytes = s.errBytes := rfl
@[simp] theorem answer_errCnt (s : State) (r : Response) : (s.answer r).errCnt = s.errCnt := rfl
@[simp] theorem answer_target (s : State) (r : Response) : (s.answer r).target = s.target := rfl
@[simp] theorem answer_tmr (s : State) (r : Response) : (s.answer r).tmr = s.tmr := rfl
@[simp] theorem answer_t0 (s : State) (r : Response) : (s.answer r).t0 = s.t0 := rfl
@[simp] theorem answer_ft0 (s : State) (r : Response) : (s.answer r).ft0 = s.ft0 := rfl
@[simp] theorem answer_rxbuf (s : State) (r : Response) : (s.answer r).rxbuf = s.rxbuf := rfl
@[simp] theorem answer_txlog (s : State) (r : Response) : (s.answer r).txlog = s.txlog := rfl
@[simp] theorem answer_cmdl (s : State) (r : Response) : (s.answer r).cmdl = s.cmdl := rfl
@[simp] theorem answer_cfgl (s : State) (r : Response) : (s.answer r).cfgl = s.cfgl := rfl
@[simp] theorem answer_blkl (s : State) (r : Response) : (s.answer r).blkl = s.blkl := rfl
@[simp] theorem answer_rspValid (s : State) (r : Response) : (s.answer r).rspValid = true := rfl
@[simp] theorem answer_rsp (s : State) (r : Response) : (s.answer r).rsp = r := rfl
@[simp] theorem answer_par (s : State) (r : Response) : (s.answer r).par = s.par := rfl
@[simp] theorem answer_now (s : State) (r : Response) : (s.answer r).now = s.now := rfl
@[simp] theorem answer_env (s : State) (r : Response) : (s.answer r).env = s.env := rfl
@[simp] theorem answer_draws (s : State) (r : Response) : (s.answer r).draws = s.draws := rfl
@[simp] theorem answer_frees (s : State) (r : Response) : (s.answer r).frees = s.frees := rfl
@[simp] theorem answer_host (s : State) (r : Response) : (s.answer r).host = s.host := rfl
@[simp] theorem answer_hostWaits (s : State) (r : Response) : (s.answer r).hostWaits = s.hostWaits := rfl

/-! ### refuse -/

@[simp] theorem refuse_seq (s : State) (st : Status) : (s.refuse st).seq = s.seq := rfl
@[simp] theorem refuse_phase (s : State) (st : Status) : (s.refuse st).phase = s.phase := rfl
@[simp] theorem refuse_mode (s : State) (st : Status) : (s.refuse st).mode = s.mode := rfl
@[simp] theorem refuse_msA (s : State) (st : Status) : (s.refuse st).msA = s.msA := rfl
@[simp] theorem refuse_msB (s : State) (st : Status) : (s.refuse st).msB = s.msB := rfl
@[simp] theorem refuse_inited (s : State) (st : Status) : (s.refuse st).inited = s.inited := rfl
@[simp] theorem refuse_busy (s : State) (st : Status) : (s.refuse st).busy = s.busy := rfl
@[simp] theorem refuse_warn (s : State) (st : Status) : (s.refuse st).warn = s.warn := rfl
@[simp] theorem refuse_err (s : State) (st : Status) : (s.refuse st).err = s.err := rfl
@[simp] theorem refuse_errBytes (s : State) (st : Status) : (s.refuse st).errBytes = s.errBytes := rfl
@[simp] theorem refuse_errCnt (s : State) (st : Status) : (s.refuse st).errCnt = s.errCnt := rfl
@[simp] theorem refuse_target (s : State) (st : Status) : (s.refuse st).target = s.target := rfl
@[simp] theorem refuse_tmr (s : State) (st : Status) : (s.refuse st).tmr = s.tmr := rfl
@[simp] theorem refuse_t0 (s : State) (st : Status) : (s.refuse st).t0 = s.t0 := rfl
@[simp] theorem refuse_ft0 (s : State) (st : Status) : (s.refuse st).ft0 = s.ft0 := rfl
@[simp] theorem refuse_rxbuf (s : State) (st : Status) : (s.refuse st).rxbuf = s.rxbuf := rfl
@[simp] theorem refuse_txlog (s : State) (st : Status) : (s.refuse st).txlog = s.txlog := rfl
@[simp] theorem refuse_cmdl (s : State) (st : Status) : (s.refuse st).cmdl = s.cmdl := rfl
@[simp] theorem refuse_cfgl (s : State) (st : Status) : (s.refuse st).cfgl = s.cfgl := rfl
@[simp] theorem refuse_blkl (s : State) (st : Status) : (s.refuse st).blkl = s.blkl := rfl
@[simp] theorem refuse_rspValid (s : State) (st : Status) : (s.refuse st).rspValid = true := rfl
@[simp] theorem refuse_rsp (s : State) (st : Status) : (s.refuse st).rsp = Response.bare st := rfl
@[simp] theorem refuse_par (s : State) (st : Status) : (s.refuse st).par = s.par := rfl
@[simp] theorem refuse_now (s : State) (st : Status) : (s.refuse st).now = s.now := rfl
@[simp] theorem refuse_env (s : State) (st : Status) : (s.refuse st).env = s.env := rfl
@[simp] theorem refuse_draws (s : State) (st : Status) : (s.refuse st).draws = s.draws := rfl
@[simp] theorem refuse_frees (s : State) (st : Status) : (s.refuse st).frees = s.frees := rfl
@[simp] theorem refuse_host (s : State) (st : Status) : (s.refuse st).host = s.host := rfl
@[simp] theorem refuse_hostWaits (s : State) (st : Status) : (s.refuse st).hostWaits = s.hostWaits := rfl

/-! ### requestTransition -/

@[simp] theorem requestTransition_seq (s : State) (t : Mode) : (s.requestTransition t).seq = s.seq := rfl
@[simp] theorem requestTransition_phase (s : State) (t : Mode) : (s.requestTransition t).phase = .settle1 := rfl
@[simp] theorem requestTransition_mode (s : State) (t : Mode) : (s.requestTransition t).mode = s.mode := rfl
@[simp] theorem requestTransition_msA (s : State) (t : Mode) : (s.requestTransition t).msA = s.msA := rfl
@[simp] theorem requestTransition_msB (s : State) (t : Mode) : (s.requestTransition t).msB = s.msB := rfl
@[simp] theorem requestTransition_inited (s : State) (t : Mode) : (s.requestTransition t).inited = s.inited := rfl
@[simp] theorem requestTransition_busy (s : State) (t : Mode) : (s.requestTransition t).busy = s.busy := rfl
@[simp] theorem requestTransition_warn (s : State) (t : Mode) : (s.requestTransition t).warn = s.warn := rfl
@[simp] theorem requestTransition_err (s : State) (t : Mode) : (s.requestTransition t).err = s.err := rfl
@[simp] theorem requestTransition_errBytes (s : State) (t : Mode) : (s.requestTransition t).errBytes = s.errBytes := rfl
@[simp] theorem requestTransition_errCnt (s : State) (t : Mode) : (s.requestTransition t).errCnt = s.errCnt := rfl
@[simp] theorem requestTransition_target (s : State) (t : Mode) : (s.requestTransition t).target = t := rfl
@[simp] theorem requestTransition_tmr (s : State) (t : Mode) : (s.requestTransition t).tmr = s.par.settleMs := rfl
@[simp] theorem requestTransition_t0 (s : State) (t : Mode) : (s.requestTransition t).t0 = s.t0 := rfl
@[simp] theorem requestTransition_ft0 (s : State) (t : Mode) : (s.requestTransition t).ft0 = s.ft0 := rfl
@[simp] theorem requestTransition_rxbuf (s : State) (t : Mode) : (s.requestTransition t).rxbuf = s.rxbuf := rfl
@[simp] theorem requestTransition_txlog (s : State) (t : Mode) : (s.requestTransition t).txlog = s.txlog := rfl
@[simp] theorem requestTransition_cmdl (s : State) (t : Mode) : (s.requestTransition t).cmdl = s.cmdl := rfl
@[simp] theorem requestTransition_cfgl (s : State) (t : Mode) : (s.requestTransition t).cfgl = s.cfgl := rfl
@[simp] theorem requestTransition_blkl (s : State) (t : Mode) : (s.requestTransition t).blkl = s.blkl := rfl
@[simp] theorem requestTransition_rspValid (s : State) (t : Mode) : (s.requestTransition t).rspValid = s.rspValid := rfl
@[simp] theorem requestTransition_rsp (s : State) (t : Mode) : (s.requestTransition t).rsp = s.rsp := rfl
@[simp] theorem requestTransition_par (s : State) (t : Mode) : (s.requestTransition t).par = s.par := rfl
@[simp] theorem requestTransition_now (s : State) (t : Mode) : (s.requestTransition t).now = s.now := rfl
@[simp] theorem requestTransition_env (s : State) (t : Mode) : (s.requestTransition t).env = s.env := rfl
@[simp] theorem requestTransition_draws (s : State) (t : Mode) : (s.requestTransition t).draws = s.draws := rfl
@[simp] theorem requestTransition_frees (s : State) (t : Mode) : (s.requestTransition t).frees = s.frees := rfl
@[simp] theorem requestTransition_host (s : State) (t : Mode) : (s.requestTransition t).host = s.host := rfl
@[simp] theorem requestTransition_hostWaits (s : State) (t : Mode) : (s.requestTransition t).hostWaits = s.hostWaits := rfl

/-! ### start -/

@[simp] theorem start_seq (s : State) (c : Byte) : (s.start c).seq = .enter := rfl
@[simp] theorem start_phase (s : State) (c : Byte) : (s.start c).phase = .settle1 := rfl
@[simp] theorem start_mode (s : State) (c : Byte) : (s.start c).mode = s.mode := rfl
@[simp] theorem start_msA (s : State) (c : Byte) : (s.start c).msA = s.msA := rfl
@[simp] theorem start_msB (s : State) (c : Byte) : (s.start c).msB = s.msB := rfl
@[simp] theorem start_inited (s : State) (c : Byte) : (s.start c).inited = s.inited := rfl
@[simp] theorem start_busy (s : State) (c : Byte) : (s.start c).busy = true := rfl
@[simp] theorem start_warn (s : State) (c : Byte) : (s.start c).warn = false := rfl
@[simp] theorem start_err (s : State) (c : Byte) : (s.start c).err = .ok := rfl
@[simp] theorem start_errBytes (s : State) (c : Byte) : (s.start c).errBytes = [] := rfl
@[simp] theorem start_errCnt (s : State) (c : Byte) : (s.start c).errCnt = 0 := rfl
@[simp] theorem start_target (s : State) (c : Byte) : (s.start c).target = entryTarget c := rfl
@[simp] theorem start_tmr (s : State) (c : Byte) : (s.start c).tmr = s.par.settleMs := rfl
@[simp] theorem start_t0 (s : State) (c : Byte) : (s.start c).t0 = s.t0 := rfl
@[simp] theorem start_ft0 (s : State) (c : Byte) : (s.start c).ft0 = s.ft0 := rfl
@[simp] theorem start_rxbuf (s : State) (c : Byte) : (s.start c).rxbuf = s.rxbuf := rfl
@[simp] theorem start_txlog (s : State) (c : Byte) : (s.start c).txlog = s.txlog := rfl
@[simp] theorem start_cmdl (s : State) (c : Byte) : (s.start c).cmdl = c := rfl
@[simp] theorem start_cfgl (s : State) (c : Byte) : (s.start c).cfgl = s.cfgl := rfl
@[simp] theorem start_blkl (s : State) (c : Byte) : (s.start c).blkl = s.blkl := rfl
@[simp] theorem start_rspValid (s : State) (c : Byte) : (s.start c).rspValid = s.rspValid := rfl
@[simp] theorem start_rsp (s : State) (c : Byte) : (s.start c).rsp = s.rsp := rfl
@[simp] theorem start_par (s : State) (c : Byte) : (s.start c).par = s.par := rfl
@[simp] theorem start_now (s : State) (c : Byte) : (s.start c).now = s.now := rfl
@[simp] theorem start_env (s : State) (c : Byte) : (s.start c).env = s.env := rfl
@[simp] theorem start_draws (s : State) (c : Byte) : (s.start c).draws = s.draws := rfl
@[simp] theorem start_frees (s : State) (c : Byte) : (s.start c).frees = s.frees := rfl
@[simp] theorem start_host (s : State) (c : Byte) : (s.start c).host = s.host := rfl
@[simp] theorem start_hostWaits (s : State) (c : Byte) : (s.start c).hostWaits = s.hostWaits := rfl

/-! ### raiseError -/

@[simp] theorem raiseError_seq (s : State) (e : Status) (bs : List Byte) : (s.raiseError e bs).seq = .exit := rfl
@[simp] theorem raiseError_phase (s : State) (e : Status) (bs : List Byte) : (s.raiseError e bs).phase = .settle1 := rfl
@[simp] theorem raiseError_mode (s : State) (e : Status) (bs : List Byte) : (s.raiseError e bs).mode = s.mode := rfl
@[simp] theorem raiseError_msA (s : State) (e : Status) (bs : List Byte) : (s.raiseError e bs).msA = s.msA := rfl
@[simp] theorem raiseError_msB (s : State) (e : Status) (bs : List Byte) : (s.raiseError e bs).msB = s.msB := rfl
@[simp] theorem raiseError_inited (s : State) (e : Status) (bs : List Byte) : (s.raiseError e bs).inited = s.inited := rfl
@[simp] theorem raiseError_busy (s : State) (e : Status) (bs : List Byte) : (s.raiseError e bs).busy = s.busy := rfl
@[simp] theorem raiseError_warn (s : State) (e : Status) (bs : List Byte) : (s.raiseError e bs).warn = s.warn := rfl
@[simp] theorem raiseError_err (s : State) (e : Status) (bs : List Byte) : (s.raiseError e bs).err = e := rfl
@[simp] theorem raiseError_errBytes (s : State) (e : Status) (bs : List Byte) : (s.raiseError e bs).errBytes = bs := rfl
@[simp] theorem raiseError_errCnt (s : State) (e : Status) (bs : List Byte) : (s.raiseError e bs).errCnt = BitVec.ofNat 4 bs.length := rfl
@[simp] theorem raiseError_target (s : State) (e : Status) (bs : List Byte) : (s.raiseError e bs).target = .normal := rfl
@[simp] theorem raiseError_tmr (s : State) (e : Status) (bs : List Byte) : (s.raiseError e bs).tmr = s.par.settleMs := rfl
@[simp] theorem raiseError_t0 (s : State) (e : Status) (bs : List Byte) : (s.raiseError e bs).t0 = s.t0 := rfl
@[simp] theorem raiseError_ft0 (s : State) (e : Status) (bs : List Byte) : (s.raiseError e bs).ft0 = s.ft0 := rfl
@[simp] theorem raiseError_rxbuf (s : State) (e : Status) (bs : List Byte) : (s.raiseError e bs).rxbuf = s.rxbuf := rfl
@[simp] theorem raiseError_txlog (s : State) (e : Status) (bs : List Byte) : (s.raiseError e bs).txlog = s.txlog := rfl
@[simp] theorem raiseError_cmdl (s : State) (e : Status) (bs : List Byte) : (s.raiseError e bs).cmdl = s.cmdl := rfl
@[simp] theorem raiseError_cfgl (s : State) (e : Status) (bs : List Byte) : (s.raiseError e bs).cfgl = s.cfgl := rfl
@[simp] theorem raiseError_blkl (s : State) (e : Status) (bs : List Byte) : (s.raiseError e bs).blkl = s.blkl := rfl
@[simp] theorem raiseError_rspValid (s : State) (e : Status) (bs : List Byte) : (s.raiseError e bs).rspValid = s.rspValid := rfl
@[simp] theorem raiseError_rsp (s : State) (e : Status) (bs : List Byte) : (s.raiseError e bs).rsp = s.rsp := rfl
@[simp] theorem raiseError_par (s : State) (e : Status) (bs : List Byte) : (s.raiseError e bs).par = s.par := rfl
@[simp] theorem raiseError_now (s : State) (e : Status) (bs : List Byte) : (s.raiseError e bs).now = s.now := rfl
@[simp] theorem raiseError_env (s : State) (e : Status) (bs : List Byte) : (s.raiseError e bs).env = s.env := rfl
@[simp] theorem raiseError_draws (s : State) (e : Status) (bs : List Byte) : (s.raiseError e bs).draws = s.draws := rfl
@[simp] theorem raiseError_frees (s : State) (e : Status) (bs : List Byte) : (s.raiseError e bs).frees = s.frees := rfl
@[simp] theorem raiseError_host (s : State) (e : Status) (bs : List Byte) : (s.raiseError e bs).host = s.host := rfl
@[simp] theorem raiseError_hostWaits (s : State) (e : Status) (bs : List Byte) : (s.raiseError e bs).hostWaits = s.hostWaits := rfl

/-! ### leave -/

@[simp] theorem leave_seq (s : State) : s.leave.seq = .exit := rfl
@[simp] theorem leave_phase (s : State) : s.leave.phase = .settle1 := rfl
@[simp] theorem leave_mode (s : State) : s.leave.mode = s.mode := rfl
@[simp] theorem leave_msA (s : State) : s.leave.msA = s.msA := rfl
@[simp] theorem leave_msB (s : State) : s.leave.msB = s.msB := rfl
@[simp] theorem leave_inited (s : State) : s.leave.inited = s.inited := rfl
@[simp] theorem leave_busy (s : State) : s.leave.busy = s.busy := rfl
@[simp] theorem leave_warn (s : State) : s.leave.warn = s.warn := rfl
@[simp] theorem leave_err (s : State) : s.leave.err = s.err := rfl
@[simp] theorem leave_errBytes (s : State) : s.leave.errBytes = s.errBytes := rfl
@[simp] theorem leave_errCnt (s : State) : s.leave.errCnt = s.errCnt := rfl
@[simp] theorem leave_target (s : State) : s.leave.target = .normal := rfl
@[simp] theorem leave_tmr (s : State) : s.leave.tmr = s.par.settleMs := rfl
@[simp] theorem leave_t0 (s : State) : s.leave.t0 = s.t0 := rfl
@[simp] theorem leave_ft0 (s : State) : s.leave.ft0 = s.ft0 := rfl
@[simp] theorem leave_rxbuf (s : State) : s.leave.rxbuf = s.rxbuf := rfl
@[simp] theorem leave_txlog (s : State) : s.leave.txlog = s.txlog := rfl
@[simp] theorem leave_cmdl (s : State) : s.leave.cmdl = s.cmdl := rfl
@[simp] theorem leave_cfgl (s : State) : s.leave.cfgl = s.cfgl := rfl
@[simp] theorem leave_blkl (s : State) : s.leave.blkl = s.blkl := rfl
@[simp] theorem leave_rspValid (s : State) : s.leave.rspValid = s.rspValid := rfl
@[simp] theorem leave_rsp (s : State) : s.leave.rsp = s.rsp := rfl
@[simp] theorem leave_par (s : State) : s.leave.par = s.par := rfl
@[simp] theorem leave_now (s : State) : s.leave.now = s.now := rfl
@[simp] theorem leave_env (s : State) : s.leave.env = s.env := rfl
@[simp] theorem leave_draws (s : State) : s.leave.draws = s.draws := rfl
@[simp] theorem leave_frees (s : State) : s.leave.frees = s.frees := rfl
@[simp] theorem leave_host (s : State) : s.leave.host = s.host := rfl
@[simp] theorem leave_hostWaits (s : State) : s.leave.hostWaits = s.hostWaits := rfl

/-! ### forgetLatches -/

@[simp] theorem forgetLatches_seq (s : State) : s.forgetLatches.seq = s.seq := rfl
@[simp] theorem forgetLatches_phase (s : State) : s.forgetLatches.phase = s.phase := rfl
@[simp] theorem forgetLatches_mode (s : State) : s.forgetLatches.mode = s.mode := rfl
@[simp] theorem forgetLatches_msA (s : State) : s.forgetLatches.msA = s.msA := rfl
@[simp] theorem forgetLatches_msB (s : State) : s.forgetLatches.msB = s.msB := rfl
@[simp] theorem forgetLatches_inited (s : State) : s.forgetLatches.inited = s.inited := rfl
@[simp] theorem forgetLatches_busy (s : State) : s.forgetLatches.busy = s.busy := rfl
@[simp] theorem forgetLatches_warn (s : State) : s.forgetLatches.warn = s.warn := rfl
@[simp] theorem forgetLatches_err (s : State) : s.forgetLatches.err = s.err := rfl
@[simp] theorem forgetLatches_errBytes (s : State) : s.forgetLatches.errBytes = s.errBytes := rfl
@[simp] theorem forgetLatches_errCnt (s : State) : s.forgetLatches.errCnt = s.errCnt := rfl
@[simp] theorem forgetLatches_target (s : State) : s.forgetLatches.target = s.target := rfl
@[simp] theorem forgetLatches_tmr (s : State) : s.forgetLatches.tmr = s.tmr := rfl
@[simp] theorem forgetLatches_t0 (s : State) : s.forgetLatches.t0 = s.t0 := rfl
@[simp] theorem forgetLatches_ft0 (s : State) : s.forgetLatches.ft0 = s.ft0 := rfl
@[simp] theorem forgetLatches_rxbuf (s : State) : s.forgetLatches.rxbuf = s.rxbuf := rfl
@[simp] theorem forgetLatches_txlog (s : State) : s.forgetLatches.txlog = s.txlog := rfl
@[simp] theorem forgetLatches_cmdl (s : State) : s.forgetLatches.cmdl = s.cmdl := rfl
@[simp] theorem forgetLatches_cfgl (s : State) : s.forgetLatches.cfgl = (if isConfigCommand s.cmdl then Config.freeRecord s.frees else s.cfgl) := rfl
@[simp] theorem forgetLatches_blkl (s : State) : s.forgetLatches.blkl = (if isConfigCommand s.cmdl then Config.freeBlock s.frees else s.blkl) := rfl
@[simp] theorem forgetLatches_rspValid (s : State) : s.forgetLatches.rspValid = s.rspValid := rfl
@[simp] theorem forgetLatches_rsp (s : State) : s.forgetLatches.rsp = s.rsp := rfl
@[simp] theorem forgetLatches_par (s : State) : s.forgetLatches.par = s.par := rfl
@[simp] theorem forgetLatches_now (s : State) : s.forgetLatches.now = s.now := rfl
@[simp] theorem forgetLatches_env (s : State) : s.forgetLatches.env = s.env := rfl
@[simp] theorem forgetLatches_draws (s : State) : s.forgetLatches.draws = s.draws := rfl
@[simp] theorem forgetLatches_frees (s : State) : s.forgetLatches.frees = (if isConfigCommand s.cmdl then s.frees + 1 else s.frees) := rfl
@[simp] theorem forgetLatches_host (s : State) : s.forgetLatches.host = s.host := rfl
@[simp] theorem forgetLatches_hostWaits (s : State) : s.forgetLatches.hostWaits = s.hostWaits := rfl

/-! ### respond -/

@[simp] theorem respond_seq (s : State) (st : Status) : (s.respond st).seq = .idle := rfl
@[simp] theorem respond_phase (s : State) (st : Status) : (s.respond st).phase = s.phase := rfl
@[simp] theorem respond_mode (s : State) (st : Status) : (s.respond st).mode = s.mode := rfl
@[simp] theorem respond_msA (s : State) (st : Status) : (s.respond st).msA = s.msA := rfl
@[simp] theorem respond_msB (s : State) (st : Status) : (s.respond st).msB = s.msB := rfl
@[simp] theorem respond_inited (s : State) (st : Status) : (s.respond st).inited = s.inited := rfl
@[simp] theorem respond_busy (s : State) (st : Status) : (s.respond st).busy = false := rfl
@[simp] theorem respond_warn (s : State) (st : Status) : (s.respond st).warn = s.warn := rfl
@[simp] theorem respond_err (s : State) (st : Status) : (s.respond st).err = s.err := rfl
@[simp] theorem respond_errBytes (s : State) (st : Status) : (s.respond st).errBytes = s.errBytes := rfl
@[simp] theorem respond_errCnt (s : State) (st : Status) : (s.respond st).errCnt = s.errCnt := rfl
@[simp] theorem respond_target (s : State) (st : Status) : (s.respond st).target = s.target := rfl
@[simp] theorem respond_tmr (s : State) (st : Status) : (s.respond st).tmr = s.tmr := rfl
@[simp] theorem respond_t0 (s : State) (st : Status) : (s.respond st).t0 = s.t0 := rfl
@[simp] theorem respond_ft0 (s : State) (st : Status) : (s.respond st).ft0 = s.ft0 := rfl
@[simp] theorem respond_rxbuf (s : State) (st : Status) : (s.respond st).rxbuf = s.rxbuf := rfl
@[simp] theorem respond_txlog (s : State) (st : Status) : (s.respond st).txlog = s.txlog := rfl
@[simp] theorem respond_cmdl (s : State) (st : Status) : (s.respond st).cmdl = s.cmdl := rfl
@[simp] theorem respond_cfgl (s : State) (st : Status) : (s.respond st).cfgl = (if isConfigCommand s.cmdl then Config.freeRecord s.frees else s.cfgl) := rfl
@[simp] theorem respond_blkl (s : State) (st : Status) : (s.respond st).blkl = (if isConfigCommand s.cmdl then Config.freeBlock s.frees else s.blkl) := rfl
@[simp] theorem respond_rspValid (s : State) (st : Status) : (s.respond st).rspValid = true := rfl
@[simp] theorem respond_rsp (s : State) (st : Status) : (s.respond st).rsp = s.response st := rfl
@[simp] theorem respond_par (s : State) (st : Status) : (s.respond st).par = s.par := rfl
@[simp] theorem respond_now (s : State) (st : Status) : (s.respond st).now = s.now := rfl
@[simp] theorem respond_env (s : State) (st : Status) : (s.respond st).env = s.env := rfl
@[simp] theorem respond_draws (s : State) (st : Status) : (s.respond st).draws = s.draws := rfl
@[simp] theorem respond_frees (s : State) (st : Status) : (s.respond st).frees = (if isConfigCommand s.cmdl then s.frees + 1 else s.frees) := rfl
@[simp] theorem respond_host (s : State) (st : Status) : (s.respond st).host = s.host := rfl
@[simp] theorem respond_hostWaits (s : State) (st : Status) : (s.respond st).hostWaits = s.hostWaits := rfl

/-! ### decodeBlock -/

@[simp] theorem decodeBlock_seq (s : State) (b : Block) : (s.decodeBlock b).seq = .exit := rfl
@[simp] theorem decodeBlock_phase (s : State) (b : Block) : (s.decodeBlock b).phase = .settle1 := rfl
@[simp] theorem decodeBlock_mode (s : State) (b : Block) : (s.decodeBlock b).mode = s.mode := rfl
@[simp] theorem decodeBlock_msA (s : State) (b : Block) : (s.decodeBlock b).msA = s.msA := rfl
@[simp] theorem decodeBlock_msB (s : State) (b : Block) : (s.decodeBlock b).msB = s.msB := rfl
@[simp] theorem decodeBlock_inited (s : State) (b : Block) : (s.decodeBlock b).inited = s.inited := rfl
@[simp] theorem decodeBlock_busy (s : State) (b : Block) : (s.decodeBlock b).busy = s.busy := rfl
@[simp] theorem decodeBlock_warn (s : State) (b : Block) : (s.decodeBlock b).warn = s.warn := rfl
@[simp] theorem decodeBlock_err (s : State) (b : Block) : (s.decodeBlock b).err = s.err := rfl
@[simp] theorem decodeBlock_errBytes (s : State) (b : Block) : (s.decodeBlock b).errBytes = s.errBytes := rfl
@[simp] theorem decodeBlock_errCnt (s : State) (b : Block) : (s.decodeBlock b).errCnt = s.errCnt := rfl
@[simp] theorem decodeBlock_target (s : State) (b : Block) : (s.decodeBlock b).target = .normal := rfl
@[simp] theorem decodeBlock_tmr (s : State) (b : Block) : (s.decodeBlock b).tmr = s.par.settleMs := rfl
@[simp] theorem decodeBlock_t0 (s : State) (b : Block) : (s.decodeBlock b).t0 = s.t0 := rfl
@[simp] theorem decodeBlock_ft0 (s : State) (b : Block) : (s.decodeBlock b).ft0 = s.ft0 := rfl
@[simp] theorem decodeBlock_rxbuf (s : State) (b : Block) : (s.decodeBlock b).rxbuf = s.rxbuf := rfl
@[simp] theorem decodeBlock_txlog (s : State) (b : Block) : (s.decodeBlock b).txlog = s.txlog := rfl
@[simp] theorem decodeBlock_cmdl (s : State) (b : Block) : (s.decodeBlock b).cmdl = s.cmdl := rfl
@[simp] theorem decodeBlock_cfgl (s : State) (b : Block) : (s.decodeBlock b).cfgl = unpack b := rfl
@[simp] theorem decodeBlock_blkl (s : State) (b : Block) : (s.decodeBlock b).blkl = s.blkl := rfl
@[simp] theorem decodeBlock_rspValid (s : State) (b : Block) : (s.decodeBlock b).rspValid = s.rspValid := rfl
@[simp] theorem decodeBlock_rsp (s : State) (b : Block) : (s.decodeBlock b).rsp = s.rsp := rfl
@[simp] theorem decodeBlock_par (s : State) (b : Block) : (s.decodeBlock b).par = s.par := rfl
@[simp] theorem decodeBlock_now (s : State) (b : Block) : (s.decodeBlock b).now = s.now := rfl
@[simp] theorem decodeBlock_env (s : State) (b : Block) : (s.decodeBlock b).env = s.env := rfl
@[simp] theorem decodeBlock_draws (s : State) (b : Block) : (s.decodeBlock b).draws = s.draws := rfl
@[simp] theorem decodeBlock_frees (s : State) (b : Block) : (s.decodeBlock b).frees = s.frees := rfl
@[simp] theorem decodeBlock_host (s : State) (b : Block) : (s.decodeBlock b).host = s.host := rfl
@[simp] theorem decodeBlock_hostWaits (s : State) (b : Block) : (s.decodeBlock b).hostWaits = s.hostWaits := rfl

/-! ### sendFrame -/

@[simp] theorem sendFrame_seq (s : State) (f : List Byte) : (s.sendFrame f).seq = .rx := rfl
@[simp] theorem sendFrame_phase (s : State) (f : List Byte) : (s.sendFrame f).phase = s.phase := rfl
@[simp] theorem sendFrame_mode (s : State) (f : List Byte) : (s.sendFrame f).mode = s.mode := rfl
@[simp] theorem sendFrame_msA (s : State) (f : List Byte) : (s.sendFrame f).msA = s.msA := rfl
@[simp] theorem sendFrame_msB (s : State) (f : List Byte) : (s.sendFrame f).msB = s.msB := rfl
@[simp] theorem sendFrame_inited (s : State) (f : List Byte) : (s.sendFrame f).inited = s.inited := rfl
@[simp] theorem sendFrame_busy (s : State) (f : List Byte) : (s.sendFrame f).busy = s.busy := rfl
@[simp] theorem sendFrame_warn (s : State) (f : List Byte) : (s.sendFrame f).warn = s.warn := rfl
@[simp] theorem sendFrame_err (s : State) (f : List Byte) : (s.sendFrame f).err = s.err := rfl
@[simp] theorem sendFrame_errBytes (s : State) (f : List Byte) : (s.sendFrame f).errBytes = s.errBytes := rfl
@[simp] theorem sendFrame_errCnt (s : State) (f : List Byte) : (s.sendFrame f).errCnt = s.errCnt := rfl
@[simp] theorem sendFrame_target (s : State) (f : List Byte) : (s.sendFrame f).target = s.target := rfl
@[simp] theorem sendFrame_tmr (s : State) (f : List Byte) : (s.sendFrame f).tmr = s.tmr := rfl
@[simp] theorem sendFrame_t0 (s : State) (f : List Byte) : (s.sendFrame f).t0 = s.t0 := rfl
@[simp] theorem sendFrame_ft0 (s : State) (f : List Byte) : (s.sendFrame f).ft0 = s.now := rfl
@[simp] theorem sendFrame_rxbuf (s : State) (f : List Byte) : (s.sendFrame f).rxbuf = s.rxbuf := rfl
@[simp] theorem sendFrame_txlog (s : State) (f : List Byte) : (s.sendFrame f).txlog = s.txlog ++ f := rfl
@[simp] theorem sendFrame_cmdl (s : State) (f : List Byte) : (s.sendFrame f).cmdl = s.cmdl := rfl
@[simp] theorem sendFrame_cfgl (s : State) (f : List Byte) : (s.sendFrame f).cfgl = s.cfgl := rfl
@[simp] theorem sendFrame_blkl (s : State) (f : List Byte) : (s.sendFrame f).blkl = s.blkl := rfl
@[simp] theorem sendFrame_rspValid (s : State) (f : List Byte) : (s.sendFrame f).rspValid = s.rspValid := rfl
@[simp] theorem sendFrame_rsp (s : State) (f : List Byte) : (s.sendFrame f).rsp = s.rsp := rfl
@[simp] theorem sendFrame_par (s : State) (f : List Byte) : (s.sendFrame f).par = s.par := rfl
@[simp] theorem sendFrame_now (s : State) (f : List Byte) : (s.sendFrame f).now = s.now := rfl
@[simp] theorem sendFrame_env (s : State) (f : List Byte) : (s.sendFrame f).env = s.env := rfl
@[simp] theorem sendFrame_draws (s : State) (f : List Byte) : (s.sendFrame f).draws = s.draws := rfl
@[simp] theorem sendFrame_frees (s : State) (f : List Byte) : (s.sendFrame f).frees = s.frees := rfl
@[simp] theorem sendFrame_host (s : State) (f : List Byte) : (s.sendFrame f).host = s.host := rfl
@[simp] theorem sendFrame_hostWaits (s : State) (f : List Byte) : (s.sendFrame f).hostWaits = s.hostWaits := rfl

/-! ### stepStart -/

@[simp] theorem stepStart_seq (s : State) : s.stepStart.seq = s.seq := rfl
@[simp] theorem stepStart_phase (s : State) : s.stepStart.phase = s.phase := rfl
@[simp] theorem stepStart_mode (s : State) : s.stepStart.mode = s.mode := rfl
@[simp] theorem stepStart_msA (s : State) : s.stepStart.msA = s.msA := rfl
@[simp] theorem stepStart_msB (s : State) : s.stepStart.msB = s.msB := rfl
@[simp] theorem stepStart_inited (s : State) : s.stepStart.inited = s.inited := rfl
@[simp] theorem stepStart_busy (s : State) : s.stepStart.busy = s.busy := rfl
@[simp] theorem stepStart_warn (s : State) : s.stepStart.warn = s.warn := rfl
@[simp] theorem stepStart_err (s : State) : s.stepStart.err = s.err := rfl
@[simp] theorem stepStart_errBytes (s : State) : s.stepStart.errBytes = s.errBytes := rfl
@[simp] theorem stepStart_errCnt (s : State) : s.stepStart.errCnt = s.errCnt := rfl
@[simp] theorem stepStart_target (s : State) : s.stepStart.target = s.target := rfl
@[simp] theorem stepStart_tmr (s : State) : s.stepStart.tmr = s.tmr - s.draw.dt := rfl
@[simp] theorem stepStart_t0 (s : State) : s.stepStart.t0 = s.t0 := rfl
@[simp] theorem stepStart_ft0 (s : State) : s.stepStart.ft0 = s.ft0 := rfl
@[simp] theorem stepStart_rxbuf (s : State) : s.stepStart.rxbuf = s.rxbuf ++ s.draw.arrive := rfl
@[simp] theorem stepStart_txlog (s : State) : s.stepStart.txlog = s.txlog := rfl
@[simp] theorem stepStart_cmdl (s : State) : s.stepStart.cmdl = s.cmdl := rfl
@[simp] theorem stepStart_cfgl (s : State) : s.stepStart.cfgl = s.cfgl := rfl
@[simp] theorem stepStart_blkl (s : State) : s.stepStart.blkl = s.blkl := rfl
@[simp] theorem stepStart_rspValid (s : State) : s.stepStart.rspValid = false := rfl
@[simp] theorem stepStart_rsp (s : State) : s.stepStart.rsp = s.rsp := rfl
@[simp] theorem stepStart_par (s : State) : s.stepStart.par = s.par := rfl
@[simp] theorem stepStart_now (s : State) : s.stepStart.now = s.now + s.draw.dt := rfl
@[simp] theorem stepStart_env (s : State) : s.stepStart.env = s.env.tail := rfl
@[simp] theorem stepStart_draws (s : State) : s.stepStart.draws = s.draws + 1 := rfl
@[simp] theorem stepStart_frees (s : State) : s.stepStart.frees = s.frees := rfl
@[simp] theorem stepStart_host (s : State) : s.stepStart.host = s.host.tail := rfl
@[simp] theorem stepStart_hostWaits (s : State) : s.stepStart.hostWaits = s.hostWaits := rfl

/-! ### resetBlock -/

@[simp] theorem resetBlock_seq (s : State) : s.resetBlock.seq = State.reset.seq := rfl
@[simp] theorem resetBlock_phase (s : State) : s.resetBlock.phase = State.reset.phase := rfl
@[simp] theorem resetBlock_mode (s : State) : s.resetBlock.mode = State.reset.mode := rfl
@[simp] theorem resetBlock_msA (s : State) : s.resetBlock.msA = State.reset.msA := rfl
@[simp] theorem resetBlock_msB (s : State) : s.resetBlock.msB = State.reset.msB := rfl
@[simp] theorem resetBlock_inited (s : State) : s.resetBlock.inited = State.reset.inited := rfl
@[simp] theorem resetBlock_busy (s : State) : s.resetBlock.busy = State.reset.busy := rfl
@[simp] theorem resetBlock_warn (s : State) : s.resetBlock.warn = State.reset.warn := rfl
@[simp] theorem resetBlock_err (s : State) : s.resetBlock.err = State.reset.err := rfl
@[simp] theorem resetBlock_errBytes (s : State) : s.resetBlock.errBytes = State.reset.errBytes := rfl
@[simp] theorem resetBlock_errCnt (s : State) : s.resetBlock.errCnt = State.reset.errCnt := rfl
@[simp] theorem resetBlock_target (s : State) : s.resetBlock.target = State.reset.target := rfl
@[simp] theorem resetBlock_tmr (s : State) : s.resetBlock.tmr = State.reset.tmr := rfl
@[simp] theorem resetBlock_t0 (s : State) : s.resetBlock.t0 = State.reset.t0 := rfl
@[simp] theorem resetBlock_ft0 (s : State) : s.resetBlock.ft0 = State.reset.ft0 := rfl
@[simp] theorem resetBlock_rxbuf (s : State) : s.resetBlock.rxbuf = State.reset.rxbuf := rfl
@[simp] theorem resetBlock_txlog (s : State) : s.resetBlock.txlog = State.reset.txlog := rfl
@[simp] theorem resetBlock_cmdl (s : State) : s.resetBlock.cmdl = State.reset.cmdl := rfl
@[simp] theorem resetBlock_cfgl (s : State) : s.resetBlock.cfgl = State.reset.cfgl := rfl
@[simp] theorem resetBlock_blkl (s : State) : s.resetBlock.blkl = State.reset.blkl := rfl
@[simp] theorem resetBlock_rspValid (s : State) : s.resetBlock.rspValid = State.reset.rspValid := rfl
@[simp] theorem resetBlock_rsp (s : State) : s.resetBlock.rsp = State.reset.rsp := rfl
@[simp] theorem resetBlock_par (s : State) : s.resetBlock.par = s.par := rfl
@[simp] theorem resetBlock_now (s : State) : s.resetBlock.now = s.now := rfl
@[simp] theorem resetBlock_env (s : State) : s.resetBlock.env = s.env := rfl
@[simp] theorem resetBlock_draws (s : State) : s.resetBlock.draws = s.draws := rfl
@[simp] theorem resetBlock_frees (s : State) : s.resetBlock.frees = s.frees := rfl
@[simp] theorem resetBlock_host (s : State) : s.resetBlock.host = s.host := rfl
@[simp] theorem resetBlock_hostWaits (s : State) : s.resetBlock.hostWaits = s.hostWaits := rfl

end Sys2Proof.Machine.State
end

