-- ==== Sys2Proof/Laws/Sequencer.lean ====
section
/-! SUPPORT. What a row of the sequencer can do (one inversion lemma per table), and that every step of a command in flight brings its
response nearer. -/

namespace Sys2Proof.Machine.State

/-- Everything a row of the phase table R127 can do. -/
theorem transitionRow_cases (aux : Level) (s : State) (h : s.phase ≠ .idle) :
    (s.phase = .settle1 ∧ s.tmr = 0 ∧ s.transitionRow aux = { s with phase := .apply }) ∨
    (s.phase = .settle1 ∧ s.tmr ≠ 0 ∧ s.transitionRow aux = s.pass 1) ∨
    (s.phase = .apply ∧ s.transitionRow aux = s.applyMode s.target) ∨
    (s.phase = .settle2 ∧ s.tmr = 0 ∧ s.transitionRow aux = { s with phase := .drain }) ∨
    (s.phase = .settle2 ∧ s.tmr ≠ 0 ∧ s.transitionRow aux = s.pass 1) ∨
    (s.phase = .drain ∧ s.transitionRow aux = { s with rxbuf := [], t0 := s.now, phase := .poll }) ∨
    (s.phase = .poll ∧ aux = .low ∧ s.transitionRow aux = { s with phase := .idle }) ∨
    (s.phase = .poll ∧ aux = .high ∧ s.par.readyTimeoutMs ≤ s.now - s.t0 ∧
      s.transitionRow aux = { s with warn := true, phase := .idle }) ∨
    (s.phase = .poll ∧ aux = .high ∧ s.now - s.t0 < s.par.readyTimeoutMs ∧
      s.transitionRow aux = { s with tmr := s.par.pollMs, phase := .pollWait }) ∨
    (s.phase = .pollWait ∧ s.tmr = 0 ∧ s.transitionRow aux = { s with phase := .poll }) ∨
    (s.phase = .pollWait ∧ s.tmr ≠ 0 ∧ s.transitionRow aux = s.pass 1) := by
  cases hp : s.phase
  case idle => exact absurd hp h
  case apply => simp [transitionRow, hp]
  case drain => simp [transitionRow, hp, uartDrain]
  case poll =>
    cases aux
    · simp [transitionRow, hp]
    · by_cases ht : s.par.readyTimeoutMs ≤ s.now - s.t0
      · simp [transitionRow, hp, ht, setWarn]
      · simp [transitionRow, hp, ht]; omega
  all_goals
    by_cases ht : s.tmr = 0
    · simp [transitionRow, hp, ht]
    · simp [transitionRow, hp, ht]

/-- Everything a row of the command table R153 can do. -/
theorem row_cases {aux : Level} {s t : State} (h : s.row aux = some t) :
    ((s.seq = .enter ∨ s.seq = .exit) ∧ s.phase ≠ .idle ∧ t = s.transitionRow aux) ∨
    (s.phase = .idle ∧
      ((s.seq = .enter ∧ s.cmdl = codeCfgRead ∧ t = { s with seq := .tx }) ∨
       (s.seq = .enter ∧ s.cmdl = codeCfgWrite ∧ t = { s with seq := .encode }) ∨
       (s.seq = .enter ∧ isTransitionOnly s.cmdl = true ∧ t = { s with seq := .respond }) ∨
       (s.seq = .encode ∧ s.cmdl = codeCfgWrite ∧ t = s.encodeRecord s.cfgl) ∨
       (s.seq = .tx ∧ s.cmdl = codeCfgRead ∧ t = s.sendFrame readRequest) ∨
       (s.seq = .tx ∧ s.cmdl = codeCfgWrite ∧ t = s.sendFrame (writeRequest s.blkl)) ∨
       (s.seq = .rx ∧ s.cmdl = codeCfgRead ∧ t = s.readResponseRow) ∨
       (s.seq = .rx ∧ s.cmdl = codeCfgWrite ∧ t = s.readAckRow) ∨
       (s.seq = .decode ∧ s.cmdl = codeCfgRead ∧ t = s.decodeBlock s.blkl) ∨
       (s.seq = .exit ∧ isConfigCommand s.cmdl = true ∧ t = { s with seq := .respond }) ∨
       (s.seq = .respond ∧ t = s.present s.err))) := by
  unfold row at h
  cases hq : s.seq <;> simp only [hq] at h
  case idle => simp at h
  case encode =>
    split at h
    · simp_all
    · simp at h
  case decode =>
    split at h
    · simp_all
    · simp at h
  case respond =>
    split at h
    · simp_all
    · simp at h
  all_goals
    by_cases hp : s.phase = .idle
    · simp only [hp, ne_eq, not_true_eq_false, ↓reduceIte] at h
      repeat' split at h
      all_goals simp_all
    · simp_all

/-- Everything the rows S_RX of CFG_READ can do (R48, R52). -/
theorem readResponseRow_cases (s : State) :
    (11 ≤ s.rxbuf.length ∧ s.readResponseRow =
        { s with rxbuf := s.rxbuf.drop 11, blkl := responseBlock (s.rxbuf.take 11), seq := .decode }) ∨
    (s.rxbuf.length < 11 ∧ s.par.frameTimeoutMs ≤ s.now - s.ft0 ∧ s.rxbuf ≠ [] ∧
        s.readResponseRow = s.uartDrain.raiseError .shortRead s.rxbuf) ∨
    (s.par.frameTimeoutMs ≤ s.now - s.ft0 ∧ s.rxbuf = [] ∧
        s.readResponseRow = s.uartDrain.raiseError .transportTimeout []) ∨
    (s.rxbuf.length < 11 ∧ s.now - s.ft0 < s.par.frameTimeoutMs ∧ s.readResponseRow = s.pass 1) := by
  unfold readResponseRow readLook readResponseLen
  by_cases h : 11 ≤ s.rxbuf.length
  · simp [h, takeBytes]
  · by_cases ht : s.par.frameTimeoutMs ≤ s.now - s.ft0
    · cases hr : s.rxbuf with
      | nil => simp [ht]
      | cons b bs =>
        have h' : ¬ 11 ≤ (b :: bs).length := hr ▸ h
        rw [if_neg h', if_pos ht]
        exact .inr (.inl ⟨by omega, ht, by simp, rfl⟩)
    · rw [if_neg h, if_neg ht]
      exact .inr (.inr (.inr ⟨by omega, by omega, rfl⟩))

/-- Everything the rows S_RX of CFG_WRITE can do (R48, R53). -/
theorem readAckRow_cases (s : State) :
    (8 ≤ s.rxbuf.length ∧ s.readAckRow = { s with rxbuf := s.rxbuf.drop 8 }.leave) ∨
    (s.rxbuf.length < 8 ∧ s.par.frameTimeoutMs ≤ s.now - s.ft0 ∧ s.rxbuf ≠ [] ∧
        s.readAckRow = s.uartDrain.raiseError .shortRead s.rxbuf) ∨
    (s.par.frameTimeoutMs ≤ s.now - s.ft0 ∧ s.rxbuf = [] ∧
        s.readAckRow = s.uartDrain.raiseError .transportTimeout []) ∨
    (s.rxbuf.length < 8 ∧ s.now - s.ft0 < s.par.frameTimeoutMs ∧ s.readAckRow = s.pass 1) := by
  unfold readAckRow readLook writeAckLen
  by_cases h : 8 ≤ s.rxbuf.length
  · simp [h, takeBytes]
  · by_cases ht : s.par.frameTimeoutMs ≤ s.now - s.ft0
    · cases hr : s.rxbuf with
      | nil => simp [ht]
      | cons b bs =>
        have h' : ¬ 8 ≤ (b :: bs).length := hr ▸ h
        rw [if_neg h', if_pos ht]
        exact .inr (.inl ⟨by omega, ht, by simp, rfl⟩)
    · rw [if_neg h, if_neg ht]
      exact .inr (.inr (.inr ⟨by omega, by omega, rfl⟩))

/-- Both outcomes of the encode step (R151). -/
theorem encodeRecord_cases (cfg : Configuration) (s : State) :
    (cfg.valid = true ∧ s.encodeRecord cfg = { s with blkl := pack cfg, seq := .tx }) ∨
    (cfg.valid = false ∧ s.encodeRecord cfg = s.raiseError .invalidEnumValue []) := by
  cases h : cfg.valid <;> simp [encodeRecord, h]

/-- Both outcomes of presenting a status (R185, R187). -/
theorem present_cases (st : Status) (s : State) :
    (st.isRefusal = true ∧ s.present st = s.refuse st) ∨ (st.isRefusal = false ∧ s.present st = s.respond st) := by
  cases h : st.isRefusal <;> simp [present, h]

/-! ### The steps that are left -/

/-- What the bound on the steps needs: POLL_MS is at least 1 and a wait's start is not in the future. -/
structure Timed (s : State) : Prop where
  poll  : 1 ≤ s.par.pollMs
  ready : s.phase = .poll ∨ s.phase = .pollWait → s.t0 ≤ s.now
  frame : s.seq = .rx → s.ft0 ≤ s.now

theorem pollWork_mono (p : Params) {a b : Nat} (h : a ≤ b) : pollWork p a ≤ pollWork p b := by
  unfold pollWork
  exact Nat.add_le_add_left (Nat.mul_le_mul_right _ h) 1

/-- Time that passes takes no step away from the response. -/
theorem envStep_work_le {s : State} (h : s.Timed) : s.envStep.work ≤ s.work := by
  have hp : s.envStep.phaseWork ≤ s.phaseWork := by
    unfold phaseWork readyLeft
    cases hq : s.phase <;> simp [hq]
    case poll => exact pollWork_mono _ (by have := h.ready (.inl hq); omega)
    case pollWait =>
      have h1 := h.ready (.inr hq)
      have := pollWork_mono s.par (a := s.par.readyTimeoutMs - (s.now + s.draw.dt - s.t0) - (s.tmr - s.draw.dt))
        (b := s.par.readyTimeoutMs - (s.now - s.t0) - s.tmr) (by omega)
      omega
  unfold work
  cases hq : s.seq <;> simp [hq]
  case enter => exact hp
  case exit => exact hp
  case rx => have := h.frame hq; omega

theorem envStep_timed {s : State} (h : s.Timed) : s.envStep.Timed :=
  ⟨by simpa using h.poll, fun hp => by have := h.ready (by simpa using hp); simp; omega,
   fun hq => by have := h.frame (by simpa using hq); simp; omega⟩

/-- A row of a transition takes at least one step off its bound. -/
theorem transitionRow_phaseWork_lt (aux : Level) {s : State} (h : s.Timed) (hp : s.phase ≠ .idle) :
    (s.transitionRow aux).phaseWork < s.phaseWork := by
  have hpoll := h.poll
  rcases transitionRow_cases aux s hp with
    ⟨a, b, e⟩ | ⟨a, b, e⟩ | ⟨a, e⟩ | ⟨a, b, e⟩ | ⟨a, b, e⟩ | ⟨a, e⟩ | ⟨a, b, e⟩ | ⟨a, b, c, e⟩ | ⟨a, b, c, e⟩ | ⟨a, b, e⟩ | ⟨a, b, e⟩
  · rw [e]; simp [phaseWork, a]
  · rw [e]; simp [phaseWork, a]; omega
  · rw [e]; simp [phaseWork, a, applyWork]
  · rw [e]; simp [phaseWork, a]
  · rw [e]; simp [phaseWork, a]; omega
  · rw [e]; simp [phaseWork, readyLeft, a, drainWork]
  · rw [e]; simp [phaseWork, a, pollWork]
  · rw [e]; simp [phaseWork, a, pollWork]
  · have h1 := h.ready (.inl a)
    have h2 : (s.par.readyTimeoutMs - (s.now - s.t0) - s.par.pollMs + 1) * (s.par.pollMs + 2)
        ≤ (s.par.readyTimeoutMs - (s.now - s.t0)) * (s.par.pollMs + 2) := Nat.mul_le_mul_right _ (by omega)
    rw [Nat.add_mul] at h2
    rw [e]; simp only [phaseWork, readyLeft, a, pollWork]
    omega
  · rw [e]; simp [phaseWork, readyLeft, a, b]
  · have h1 := h.ready (.inr a)
    have e2 : s.par.readyTimeoutMs - (s.now + 1 - s.t0) - (s.tmr - 1) = s.par.readyTimeoutMs - (s.now - s.t0) - s.tmr := by omega
    rw [e]; simp only [phaseWork, readyLeft, a, pass_tmr, pass_now, pass_par, pass_t0, pass_phase, e2]
    omega

/-- A row takes at least one step off the bound of the command in flight. -/
theorem row_work_lt {aux : Level} {s t : State} (h : s.Timed) (he : s.err.isRefusal = false) (hr : s.row aux = some t) :
    t.work < s.work := by
  rcases row_cases hr with ⟨hq, hp, rfl⟩ | ⟨hp, hrow⟩
  · have hlt := transitionRow_phaseWork_lt aux h hp
    have hpar : (s.transitionRow aux).par = s.par := by
      rcases transitionRow_cases aux s hp with
        ⟨_, _, e⟩ | ⟨_, _, e⟩ | ⟨_, e⟩ | ⟨_, _, e⟩ | ⟨_, _, e⟩ | ⟨_, e⟩ | ⟨_, _, e⟩ | ⟨_, _, _, e⟩ | ⟨_, _, _, e⟩ | ⟨_, _, e⟩ | ⟨_, _, e⟩ <;>
        rw [e] <;> simp
    have hseq : (s.transitionRow aux).seq = s.seq := by
      rcases transitionRow_cases aux s hp with
        ⟨_, _, e⟩ | ⟨_, _, e⟩ | ⟨_, e⟩ | ⟨_, _, e⟩ | ⟨_, _, e⟩ | ⟨_, e⟩ | ⟨_, _, e⟩ | ⟨_, _, _, e⟩ | ⟨_, _, _, e⟩ | ⟨_, _, e⟩ | ⟨_, _, e⟩ <;>
        rw [e] <;> simp
    rcases hq with hq | hq <;> simp [work, hq, hseq, hpar, hlt]
  · have hexit : ∀ u : State, u.par = s.par → u.seq = .exit → u.phase = .settle1 → u.tmr = s.par.settleMs →
        u.work = exitWork s.par := by
      intro u h1 h2 h3 h4
      simp [work, phaseWork, h1, h2, h3, h4, exitWork, transitionWork]
    rcases hrow with ⟨q, _, rfl⟩ | ⟨q, _, rfl⟩ | ⟨q, _, rfl⟩ | ⟨q, _, rfl⟩ | ⟨q, _, rfl⟩ | ⟨q, _, rfl⟩ | ⟨q, _, rfl⟩ |
      ⟨q, _, rfl⟩ | ⟨q, _, rfl⟩ | ⟨q, _, rfl⟩ | ⟨q, rfl⟩
    · simp [work, q]
    · simp [work, q]
    · simp [work, q]; omega
    · rcases encodeRecord_cases s.cfgl s with ⟨_, e⟩ | ⟨_, e⟩ <;> rw [e]
      · simp [work, q]
      · rw [hexit _ (by simp) (by simp) (by simp) (by simp)]
        simp [work, q, txWork]; omega
    · simp [work, q, txWork]
    · simp [work, q, txWork]
    · rcases readResponseRow_cases s with ⟨_, e⟩ | ⟨_, _, _, e⟩ | ⟨_, _, e⟩ | ⟨_, c, e⟩ <;> rw [e]
      · simp [work, q]
      · rw [hexit _ (by simp) (by simp) (by simp) (by simp)]; simp [work, q]
      · rw [hexit _ (by simp) (by simp) (by simp) (by simp)]; simp [work, q]
      · have := h.frame q
        simp [work, q]; omega
    · rcases readAckRow_cases s with ⟨_, e⟩ | ⟨_, _, _, e⟩ | ⟨_, _, e⟩ | ⟨_, c, e⟩ <;> rw [e]
      · rw [hexit _ (by simp) (by simp) (by simp) (by simp)]; simp [work, q]
      · rw [hexit _ (by simp) (by simp) (by simp) (by simp)]; simp [work, q]
      · rw [hexit _ (by simp) (by simp) (by simp) (by simp)]; simp [work, q]
      · have := h.frame q
        simp [work, q]; omega
    · rw [hexit _ (by simp) (by simp) (by simp) (by simp)]; simp [work, q]
    · simp [work, q]
    · rcases present_cases s.err s with ⟨a, _⟩ | ⟨_, e⟩
      · simp [a] at he
      · rw [e]; simp [work, q]

/-- A step of a command in flight brings its response nearer. -/
theorem advance_work_lt {s t : State} (h : s.Timed) (he : s.err.isRefusal = false) (ha : s.advance = some t) :
    t.work < s.work :=
  Nat.lt_of_lt_of_le (row_work_lt (envStep_timed h) (by simpa using he) ha) (envStep_work_le h)

/-! ### The run to the response -/

@[simp] theorem runSteps_zero (s : State) : s.runSteps 0 = s := rfl

theorem runSteps_idle (n : Nat) {s : State} (h : s.busy = false) : s.runSteps n = s := by
  cases n <;> simp [runSteps, h]

theorem runSteps_succ (n : Nat) {s t : State} (hb : s.busy = true) (h : s.advance = some t) :
    s.runSteps (n + 1) = t.runSteps n := by
  simp [runSteps, hb, h]

/-- The induction over a run, packaged: what holds at its start and is kept by every step of the block holds at its end. -/
theorem runSteps_induct {P : State → Prop} (hstep : ∀ s t, P s → s.busy = true → s.advance = some t → P t) :
    ∀ (n : Nat) (s : State), P s → P (s.runSteps n)
  | 0, _, h => h
  | n + 1, s, h => by
    unfold runSteps
    split
    · next hb =>
      split
      · next t ht => exact runSteps_induct hstep n t (hstep s t h hb ht)
      · exact h
    · exact h

end Sys2Proof.Machine.State
end

