-- ==== Sys2Proof/Safety.lean ====
section
/-! DEFINITION. What a safe run is: the invariant of the states that a run from reset reaches, and the absence of faults. -/

namespace Sys2Proof.Machine

/-- The phases of a transition after its step 2 (P_IDLE among them: the transition is over). -/
def Phase.applied : Phase → Bool
  | .idle => true
  | .settle1 => false
  | .apply => false
  | .settle2 => true
  | .drain => true
  | .poll => true
  | .pollWait => true

/-- The rows between the two transitions of a configuration command. -/
def Seq.isExchange : Seq → Bool
  | .encode => true
  | .tx => true
  | .rx => true
  | .decode => true
  | _ => false

/-- The mode-select pins show MODE whenever the block drives them (R14, R27). -/
def State.PinsMatch (s : State) : Prop := s.inited = true → s.msA = s.mode.lineA ∧ s.msB = s.mode.lineB

/-- ERR holds no refusal; ERRBYTES holds bytes exactly for a ShortRead, at most 10; ERRCNT is their count (R21, R181). -/
structure State.ErrorsMatch (s : State) : Prop where
  noRefusal : s.err.isRefusal = false
  bytes     : s.err = .shortRead ↔ s.errBytes ≠ []
  bound     : s.errBytes.length ≤ 10
  count     : s.errCnt = BitVec.ofNat 4 s.errBytes.length

/-- Where the sequencer stands fits the command in flight (R12, R28, R127, R153). -/
structure State.SequencerLegal (s : State) : Prop where
  idle     : s.busy = false → s.seq = .idle ∧ s.phase = .idle
  inFlight : s.busy = true → s.seq ≠ .idle ∧ isSequenced s.cmdl = true
  inner    : s.phase ≠ .idle → s.seq = .enter ∨ s.seq = .exit
  exchange : s.seq.isExchange = true → isConfigCommand s.cmdl = true
  exit     : s.seq = .exit → isConfigCommand s.cmdl = true
  encode   : s.seq = .encode → s.cmdl = codeCfgWrite
  decode   : s.seq = .decode → s.cmdl = codeCfgRead
  firstErr : s.err ≠ .ok → s.seq = .exit ∨ s.seq = .respond ∨ s.seq = .idle

/-- MODE, TARGET and INITED fit where the sequencer stands (R22, R27, R122, R152). `resting` reads CMDL at idle, which holds the code
of the last sequenced command by the model's choice (log entries 13 and 24); that S_ENTER or S_EXIT with P_IDLE is the end of a
transition, never its request, is the model's merged row (log entry 25). -/
structure State.ModeLegal (s : State) : Prop where
  enterTarget  : s.seq = .enter → s.phase ≠ .idle → s.target = entryTarget s.cmdl
  exitTarget   : s.seq = .exit → s.phase ≠ .idle → s.target = .normal
  entered      : s.seq = .enter → s.phase.applied = true → s.inited = true ∧ s.mode = entryTarget s.cmdl
  inConfig     : s.seq = .enter → isConfigCommand s.cmdl = true → s.inited = true
  exchanging   : s.seq.isExchange = true → s.inited = true ∧ s.mode = .program
  leaving      : s.seq = .exit → s.inited = true
  left         : s.seq = .exit → s.phase.applied = true → s.mode = .normal
  responding   : s.seq = .respond → s.inited = true ∧ s.mode = restMode s.cmdl
  resting      : s.seq = .idle → s.inited = true → s.mode = restMode s.cmdl

/-- The time-keeping elements are in range: TMR fits 32 bits, a wait's start is not in the future (R7, R23). -/
structure State.ClocksLegal (s : State) : Prop where
  params : s.par.InRange
  timer  : s.tmr < 2 ^ 32
  ready  : s.phase = .poll ∨ s.phase = .pollWait → s.t0 ≤ s.now
  frame  : s.seq = .rx → s.ft0 ≤ s.now

/-- The invariant of every state that a run from reset reaches. -/
structure State.Inv (s : State) : Prop where
  pins      : s.PinsMatch
  errors    : s.ErrorsMatch
  sequencer : s.SequencerLegal
  modes     : s.ModeLegal
  clocks    : s.ClocksLegal

/-- The block is idle and initialised, so that it accepts every command (R185). -/
structure State.Accepts (s : State) : Prop where
  idle   : s.busy = false
  inited : s.inited = true

/-- The host presents a command that it waits for, in a machine whose poll interval is at least 1 ms (R5, R9, R215). -/
structure State.Serialised (s : State) : Prop where
  waits : s.hostWaits = true
  poll  : 1 ≤ s.par.pollMs

/-- Ideal timing over the environment's next `n` acts: every sleep lasts exactly its argument and every other step 0 (R128), with
AUX at one level throughout. -/
structure State.Ideal (s : State) (level : Level) (n : Nat) : Prop where
  enough : n ≤ s.env.length
  exact  : ∀ e ∈ s.env, e.dt = 0 ∧ e.aux = level

/-- The response that ends a command without an error (R84): status OK, the warning, the mode. -/
def Response.ended (w : Bool) (m : Mode) : Response := { Response.bare .ok with warn := some w, mode := some m }

/-- The bytes that arrive at the next `n` draws of an environment with these acts listed and `d` draws made (R50). -/
def arrivalsFrom : List EnvAct → Nat → Nat → List Byte
  | _, _, 0 => []
  | env, d, n + 1 => (env.headD (Config.freeEnv d)).arrive ++ arrivalsFrom env.tail (d + 1) n

/-- The bytes that the environment appends to RXBUF at its next `n` acts (R50). -/
def State.arrivals (n : Nat) (s : State) : List Byte := arrivalsFrom s.env s.draws n

/-- `t` comes `n` draws after the drain (step 4, R124) of a transition that a run from `a` performs while SEQ is `q`, and its RXBUF
holds exactly the bytes that arrived since (R126). -/
def State.KeptSinceDrain (a : State) (q : Seq) (t : State) : Prop :=
  ∃ (k n : Nat) (d : State), (a.runSteps k).busy = true ∧ (a.runSteps k).seq = q ∧ (a.runSteps k).phase = .drain ∧
    (a.runSteps k).advance = some d ∧ d.rxbuf = [] ∧ t.draws = d.draws + n ∧ t.rxbuf = d.arrivals n

/-- CFGL is still to be read by the command in flight: the record of a CFG_WRITE until it is encoded, the record of a CFG_READ from its
decode step to its response, if there was no error (R153). -/
def State.cfglLive (s : State) : Bool :=
  s.busy && (s.cmdl == codeCfgWrite && (s.seq == .enter || s.seq == .encode) ||
    s.cmdl == codeCfgRead && (s.seq == .exit || s.seq == .respond) && s.err == .ok)

/-- BLKL is still to be read by the command in flight: the encoded block until it is sent, the received one until it is decoded (R153). -/
def State.blklLive (s : State) : Bool := s.busy && (s.cmdl == codeCfgWrite && s.seq == .tx || s.seq == .decode)

/-- TARGET is still to be written onto the pins (R22). -/
def Phase.readsTarget : Phase → Bool
  | .settle1 => true
  | .apply => true
  | _ => false

/-- TMR counts a delay that is running (R23). -/
def Phase.readsTmr : Phase → Bool
  | .settle1 => true
  | .settle2 => true
  | .pollWait => true
  | _ => false

/-- T0 is the start of a ready-wait that is running (R23). -/
def Phase.readsT0 : Phase → Bool
  | .poll => true
  | .pollWait => true
  | _ => false

/-- What is still to be read of a state: every element that nothing reads before it is written again holds a fixed value. Those are
MODE and the pins until INITED is 1, TARGET, TMR, T0 and FT0 outside the waits and rows that read them, the command latches where
the command in flight is done with them, and the response fields without their pulse (R30, U23, U24). -/
def State.live (s : State) : State :=
  { s with
    mode := if s.inited then s.mode else .normal
    msA := if s.inited then s.msA else .low
    msB := if s.inited then s.msB else .low
    target := if s.phase.readsTarget then s.target else .normal
    tmr := if s.phase.readsTmr then s.tmr else 0
    t0 := if s.phase.readsT0 then s.t0 else 0
    ft0 := if s.seq = .rx then s.ft0 else 0
    cmdl := if s.busy then s.cmdl else 0
    cfgl := if s.cfglLive then s.cfgl else Configuration.zero
    blkl := if s.blklLive then s.blkl else Block.zero
    rsp := if s.rspValid then s.rsp else Response.bare .ok }

/-- A step does not fault. -/
def State.SafeStep (s : State) : Prop := ∀ f, step s ≠ .fault f

end Sys2Proof.Machine
end

