-- ==== Sys2Proof/Certificates/Slice0/Obligations.lean ====
section
/-! DEFINITION. The statements about EBYTE-CFG that the provers settle. -/

open Sys2Proof Sys2Proof.Machine

/-! ## Encodings -/

/-- Decoding the word of a well-formed instruction gives the instruction back, with every operand at every value its port admits
(R70, R71, R78, R79, R83, R84). -/
def Obligations.DecodeOfEncodeIsTheInstruction : Prop :=
  ∀ i : Instr, i.wf = true → decode (encode i) = .ok i

/-- A command port shows a legal command exactly where its code is one of the twelve of R83; every other code is rejected as
IllegalCommand, whatever the operand ports show (R85, R86). -/
def Obligations.CommandCodesAreExactlyTheTable : Prop :=
  ∀ p : CommandPort,
    ((∃ i, decode (.command p) = .ok i) ↔
      p.code ∈ [0x01#8, 0x02#8, 0x10#8, 0x11#8, 0x12#8, 0x13#8, 0x20#8, 0x21#8, 0x30#8, 0x31#8, 0x40#8, 0x41#8]) ∧
    ((∀ i, decode (.command p) ≠ .ok i) → decode (.command p) = .error (.illegalCommand p.code))

/-- Words written out from the patterns of the opcode table decode to the instructions they stand for (a sanity statement). -/
def Obligations.WordsOfTheTableDecode : Prop :=
  decode (.command (CommandPort.ofCode 0b00000001)) = .ok .init ∧
  decode (.command (CommandPort.ofCode 0b00010011)) = .ok (.setMode .program) ∧
  decode (.command (CommandPort.ofCode 0b00110000)) = .ok .cfgRead ∧
  decode (.command (CommandPort.ofCode 0b01000001)) = .ok .lineRecv ∧
  decode (.wire [0b11000001, 0b00000000, 0b00001000]) = .ok .wireReadReq ∧
  decode (.modeSelect 0b10) = .ok .modePowerDown ∧
  decode (.status 0b1001) = .ok .statusNotInitialised ∧
  decode (.status 0b0100) = .error (.reservedStatus 0b0100)

/-! ## The codec -/

/-- Unpacking a packed valid record gives the record back, field for field; packing is injective on valid records; and packing and
unpacking are a one-to-one correspondence between the valid records and the canonical blocks (R103). -/
def Obligations.UnpackOfPackIsTheRecord : Prop :=
  (∀ c : Configuration, c.valid = true → unpack (pack c) = c) ∧
  (∀ c d : Configuration, c.valid = true → d.valid = true → pack c = pack d → c = d) ∧
  (∀ b : Block, b.canonical = true → ∃ c : Configuration, c.valid = true ∧ pack c = b)

/-- For every block, the record it unpacks to is valid, so ENCODE succeeds on it, and packs to the block with its five reserved bits
cleared; a canonical block comes back as it was (R104). -/
def Obligations.PackOfUnpackClearsTheReservedBits : Prop :=
  ∀ b : Block, (unpack b).valid = true ∧
    pack (unpack b) = { b with b3 := b.b3 &&& 0xE3, b5 := b.b5 &&& 0xD7 } ∧
    (b.canonical = true → pack (unpack b) = b)

/-- A block is canonical exactly where its five reserved bits are 0, which is exactly where packing inverts unpacking; every packed
record is canonical (R107). -/
def Obligations.CanonicalBlocksHaveTheReservedBitsClear : Prop :=
  (∀ b : Block, b.canonical = true ↔
    (b.b3.getLsbD 2 = false ∧ b.b3.getLsbD 3 = false ∧ b.b3.getLsbD 4 = false ∧ b.b5.getLsbD 5 = false ∧ b.b5.getLsbD 3 = false)) ∧
  (∀ b : Block, b.canonical = true ↔ (b.b3 &&& 0x1C = 0 ∧ b.b5 &&& 0x28 = 0)) ∧
  (∀ b : Block, b.canonical = true ↔ pack (unpack b) = b) ∧
  (∀ c : Configuration, (pack c).canonical = true)

/-- The layout of R71 read as numbers: where each field of a record stands in the block it packs to (R76). -/
def Obligations.PackPlacesEveryField : Prop :=
  ∀ c : Configuration, c.valid = true →
    256 * (pack c).b0.toNat + (pack c).b1.toNat = c.address.toNat ∧
    (pack c).b2.toNat = 32 * c.baudRate.toNat + 8 * c.parity.toNat + c.airDataRate.toNat ∧
    (pack c).b3.toNat = 64 * c.subPacketSize.toNat + 32 * c.rssiAmbientNoise.toNat + c.transmitPower.toNat ∧
    (pack c).b4 = c.channel ∧
    (pack c).b5.toNat = 128 * c.rssiByteEnable.toNat + 64 * c.transmissionMethod.toNat + 16 * c.lbtEnable.toNat + c.worCycle.toNat ∧
    256 * (pack c).b6.toNat + (pack c).b7.toNat = c.encryptionKey.toNat

/-- The layout of R71 read as numbers: where each field of the unpacked record comes from (R77). -/
def Obligations.UnpackReadsEveryField : Prop :=
  ∀ b : Block,
    (unpack b).address.toNat = 256 * b.b0.toNat + b.b1.toNat ∧
    (unpack b).baudRate.toNat = b.b2.toNat / 32 ∧
    (unpack b).parity.toNat = b.b2.toNat / 8 % 4 ∧
    (unpack b).airDataRate.toNat = b.b2.toNat % 8 ∧
    (unpack b).subPacketSize.toNat = b.b3.toNat / 64 ∧
    (unpack b).rssiAmbientNoise.toNat = b.b3.toNat / 32 % 2 ∧
    (unpack b).transmitPower.toNat = b.b3.toNat % 4 ∧
    (unpack b).channel = b.b4 ∧
    (unpack b).rssiByteEnable.toNat = b.b5.toNat / 128 ∧
    (unpack b).transmissionMethod.toNat = b.b5.toNat / 64 % 2 ∧
    (unpack b).lbtEnable.toNat = b.b5.toNat / 16 % 2 ∧
    (unpack b).worCycle.toNat = b.b5.toNat % 8 ∧
    (unpack b).encryptionKey.toNat = 256 * b.b6.toNat + b.b7.toNat

/-- Two blocks that differ only in reserved bits decode to the same record (R80). -/
def Obligations.ReservedBitsAreNotLookedAt : Prop :=
  ∀ a b : Block, a.clearReserved = b.clearReserved → unpack a = unpack b

/-- ENCODE of an idle block, initialised or not, answers a record all of whose enumerated indices are below their cardinality with
OK and its packed block, any other record with InvalidEnumValue and no block; nothing but the response port changes (R100,
R102, R106). -/
def Obligations.EncodeAnswersTheBlockOrInvalidEnumValue : Prop :=
  ∀ (c : Configuration) (s : State), s.busy = false →
    ((c.baudRate.toNat < 8 ∧ c.parity.toNat < 4 ∧ c.airDataRate.toNat < 8 ∧ c.subPacketSize.toNat < 4 ∧
        c.transmitPower.toNat < 4 ∧ c.transmissionMethod.toNat < 2 ∧ c.worCycle.toNat < 8) →
      exec (.encode c) s = .next { s with rspValid := true, rsp := { Response.bare .ok with blk := some (pack c) } }) ∧
    ((8 ≤ c.baudRate.toNat ∨ 4 ≤ c.parity.toNat ∨ 8 ≤ c.airDataRate.toNat ∨ 4 ≤ c.subPacketSize.toNat ∨
        4 ≤ c.transmitPower.toNat ∨ 2 ≤ c.transmissionMethod.toNat ∨ 8 ≤ c.worCycle.toNat) →
      exec (.encode c) s = .next { s with rspValid := true, rsp := Response.bare .invalidEnumValue })

/-- DECODE of an idle block, initialised or not, answers every block with OK and its record; nothing but the response port changes
(R101, R106). -/
def Obligations.DecodeAnswersTheRecordOfEveryBlock : Prop :=
  ∀ (b : Block) (s : State), s.busy = false →
    exec (.decode b) s = .next { s with rspValid := true, rsp := { Response.bare .ok with cfg := some (unpack b) } }

/-! ## GET_MODE and the line port -/

/-- GET_MODE: Busy while BUSY is 1, else NotInitialised while INITED is 0, else OK with the MODE register;
it writes no state (R130). -/
def Obligations.GetModeAnswersTheModeRegister : Prop :=
  ∀ s : State,
    (s.Accepts →
      exec .getMode s = .next { s with rspValid := true, rsp := { Response.bare .ok with mode := some s.mode } }) ∧
    (s.busy = true → exec .getMode s = .next { s with rspValid := true, rsp := Response.bare .busy }) ∧
    (s.busy = false → s.inited = false →
      exec .getMode s = .next { s with rspValid := true, rsp := Response.bare .notInitialised })

/-- LINE_SEND appends the text and one terminator to TXLOG, in every mode and for every text (a text that holds a terminator too: the
block does not check it), answers OK and changes nothing else (R170; whatever byte the terminator is, log entry 9). -/
def Obligations.LineSendAppendsTheTextAndOneTerminator : Prop :=
  ∀ (text : List Byte) (s : State), s.Accepts →
    exec (.lineSend text) s =
      .next { s with txlog := s.txlog ++ text ++ [Config.newline], rspValid := true, rsp := Response.bare .ok }

/-- LINE_RECV: where RXBUF holds a terminator, the bytes before the first one are the answer, they and the terminator leave RXBUF and
the rest stays; where it holds none, the answer is "no data" with status OK and RXBUF is unchanged; nothing else changes. It is
refused with Busy while BUSY is 1, else with NotInitialised while INITED is 0 (R171). -/
def Obligations.LineRecvTakesTheFirstLine : Prop :=
  (∀ (line rest : List Byte) (s : State), s.Accepts → (Config.newline ∉ line) → s.rxbuf = line ++ Config.newline :: rest →
    exec .lineRecv s =
      .next { s with
          rxbuf := rest, rspValid := true,
          rsp := { Response.bare .ok with text := some line, hasData := some true } }) ∧
  (∀ s : State, s.Accepts → (Config.newline ∉ s.rxbuf) →
    exec .lineRecv s = .next { s with rspValid := true, rsp := { Response.bare .ok with hasData := some false } }) ∧
  (∀ s : State, s.busy = true → exec .lineRecv s = .next { s with rspValid := true, rsp := Response.bare .busy }) ∧
  (∀ s : State, s.busy = false → s.inited = false →
    exec .lineRecv s = .next { s with rspValid := true, rsp := Response.bare .notInitialised })

/-! ## Refusals -/

/-- While BUSY is 1 each of the nine commands is answered Busy, and while BUSY and INITED are 0 each of the six that need INITED is
answered NotInitialised; a refused command changes nothing but the response port (R185). That a command presented while BUSY is 1
has the answer Busy is the model's choice: R185 gives it to a model that has no handshake, which this one is (log entry 16). -/
def Obligations.RefusedCommandsChangeNothing : Prop :=
  ∀ (m : Mode) (c : Configuration) (b : Block) (text : List Byte) (s : State),
    (s.busy = true →
      ∀ i ∈ [Instr.init, .getMode, .setMode m, .encode c, .decode b, .cfgRead, .cfgWrite c, .lineSend text, .lineRecv],
        exec i s = .next { s with rspValid := true, rsp := Response.bare .busy }) ∧
    (s.busy = false → s.inited = false →
      ∀ i ∈ [Instr.getMode, .setMode m, .cfgRead, .cfgWrite c, .lineSend text, .lineRecv],
        exec i s = .next { s with rspValid := true, rsp := Response.bare .notInitialised })

/-- A presented code outside the table is refused with IllegalCommand before anything else, even while BUSY is 1 or INITED is 0
(R85, R188; that a presentation while BUSY is 1 has a response at all is the model's choice, a model without handshake, log entry
16); beside the environment's act nothing changes but the response port and the host's own account. -/
def Obligations.AnUndefinedCodeIsRefusedBeforeAnythingElse : Prop :=
  ∀ (p : CommandPort) (w : Bool) (rest : List HostAct) (s : State), s.host = .present p w :: rest →
    (p.code ∉ [0x01#8, 0x02#8, 0x10#8, 0x11#8, 0x12#8, 0x13#8, 0x20#8, 0x21#8, 0x30#8, 0x31#8, 0x40#8, 0x41#8]) →
    step s = .next { s.envStep with
      host := rest, hostWaits := w, rspValid := true, rsp := Response.bare .illegalCommand }

/-- A legal command presented while BUSY is 1 is not queued and does not disturb the command in flight, so a second transition cannot
start inside a first (R131, R185). That it is answered Busy, with the one response port beside the command in flight, is the
model's choice: the answer of a model without handshake (R185, log entry 16). -/
def Obligations.APresentedCommandDoesNotDisturbABusyBlock : Prop :=
  ∀ (p : CommandPort) (w : Bool) (rest : List HostAct) (s : State), s.host = .present p w :: rest → s.busy = true →
    (p.code ∈ [0x01#8, 0x02#8, 0x10#8, 0x11#8, 0x12#8, 0x13#8, 0x20#8, 0x21#8, 0x30#8, 0x31#8, 0x40#8, 0x41#8]) →
    step s = .next { s.envStep with host := rest, hostWaits := w, rspValid := true, rsp := Response.bare .busy }

/-! ## The step -/

/-- Where the host presents a word that decodes to a well-formed instruction, the step is exec of that instruction, in the state after
the environment's act, with the response pulse of the step before ended and the host's act taken (R26, R57; the host's list of acts is the
model's, log entry 5). -/
def Obligations.StepRunsTheDecodedInstruction : Prop :=
  ∀ (p : CommandPort) (w : Bool) (rest : List HostAct) (i : Instr) (s : State), s.host = .present p w :: rest →
    decode (.command p) = .ok i → i.wf = true →
    step s = exec i { s.envStep with rspValid := false, host := rest, hostWaits := w }

/-- Where the host presents nothing and a command in flight stands at a row that takes a word of the opcode table from a latch or puts
one on a port, the step is exec of the instruction that the word decodes to, in the state after the environment's act (the
model's reading of the rows, log entry 14). -/
def Obligations.StepRunsTheWordOfTheRow : Prop :=
  ∀ (w : PortWord) (i : Instr) (s : State), (s.host = [] ∨ ∃ rest, s.host = .nothing :: rest) →
    s.busy = true → s.wordAt = some w → decode w = .ok i →
    step s = exec i { s.envStep with rspValid := false, host := s.host.tail }

/-- A LINE_SEND whose text holds the terminator gets no meaning at the port where the block would accept it (R170: "A model should
refuse such an operand rather than give it a meaning"). -/
def Obligations.ATextWithATerminatorIsRefusedAtThePort : Prop :=
  ∀ (p : CommandPort) (w : Bool) (rest : List HostAct) (s : State), s.host = .present p w :: rest → s.Accepts →
    p.code = 0x40 → (Config.newline ∈ p.text) → step s = .refused .newlineInText

/-- Before anything the block does at a step, the environment acts: NOW advances and TMR counts down by the same time, bytes arrive at
the tail of RXBUF, and nothing else of the block changes; the act is the next listed one and, where none is listed, a free value
(R7, R23, R50, R57, R128; one act a step is the model's, log entries 3 and 10). -/
def Obligations.TheEnvironmentActsBeforeTheRow : Prop :=
  (∀ (e : EnvAct) (rest : List EnvAct) (s : State), s.env = e :: rest →
    s.draw = e ∧
    s.envStep = { s with
        now := s.now + e.dt, tmr := s.tmr - e.dt, rxbuf := s.rxbuf ++ e.arrive, env := rest, draws := s.draws + 1 }) ∧
  (∀ s : State, s.env = [] →
    s.draw = Config.freeEnv s.draws ∧
    s.envStep = { s with
        now := s.now + (Config.freeEnv s.draws).dt, tmr := s.tmr - (Config.freeEnv s.draws).dt,
        rxbuf := s.rxbuf ++ (Config.freeEnv s.draws).arrive, draws := s.draws + 1 }) ∧
  (∀ s : State, s.advance = s.envStep.row s.draw.aux)

/-- Where nothing is presented, a step of a busy block is exactly its row, in the state after the environment's act and with the
response pulse of the step before ended, and AUX reads in it what that act says; where the tables have no row, it stops; an idle
block stays as it is (R12, R15, R26, R57, R127, R153; one row a step is the model's choice, log entry 5, the stop log entry 21). -/
def Obligations.AQuietStepIsExactlyItsRow : Prop :=
  ∀ s u : State, (s.host = [] ∨ ∃ rest, s.host = .nothing :: rest) →
    u = { s.envStep with rspValid := false, host := s.host.tail } →
    (s.busy = false → step s = .next u) ∧
    (s.busy = true → ∀ t, step s = .next t ↔ u.row s.draw.aux = some t) ∧
    (s.busy = true → u.row s.draw.aux = none → step s = .fault .noRowEnabled)

/-! ## The words the block itself uses -/

/-- The four mode words, the row P_APPLY: the pair of levels of R78 goes onto the pins and the mode into MODE, INITED is set and the
second settle delay starts; nothing else changes (R78, R122, R127; that a mode word is this row is the model's reading, log entry
14). -/
def Obligations.ModeWordsDriveThePins : Prop :=
  ∀ s : State,
    exec .modeNormal s = .next { s with
        mode := .normal, msA := .low, msB := .low, inited := true,
        tmr := s.par.settleMs, phase := .settle2 } ∧
    exec .modeWakeUp s = .next { s with
        mode := .wakeUp, msA := .high, msB := .low, inited := true,
        tmr := s.par.settleMs, phase := .settle2 } ∧
    exec .modePowerDown s = .next { s with
        mode := .powerDown, msA := .low, msB := .high, inited := true,
        tmr := s.par.settleMs, phase := .settle2 } ∧
    exec .modeProgram s = .next { s with
        mode := .program, msA := .high, msB := .high, inited := true,
        tmr := s.par.settleMs, phase := .settle2 }

/-- The two request frames, the row S_TX: the bytes of R51 go out in order and the frame wait starts; nothing else changes (R51,
R79, R153; that a frame is this row is the model's reading, log entry 14). -/
def Obligations.RequestFramesGoOut : Prop :=
  ∀ (b : Block) (s : State),
    exec .wireReadReq s = .next { s with txlog := s.txlog ++ [0xC1, 0x00, 0x08], ft0 := s.now, seq := .rx } ∧
    exec (.wireWriteReq b) s =
      .next { s with
          txlog := s.txlog ++ [0xC0, 0x00, 0x08, b.b0, b.b1, b.b2, b.b3, b.b4, b.b5, b.b6, b.b7],
          ft0 := s.now, seq := .rx }

/-- The register block rows: a valid record is packed into BLKL and the frame is next; an invalid one takes the error exit with
InvalidEnumValue and sends nothing; a received block is unpacked into CFGL and the transition to Normal is requested (R153, R186; that a
block is this row is the model's reading, log entry 14). That TARGET, TMR and PHASE are set in the row itself, the requesting row
of R153 and the row P_IDLE of R127 in one step, is the model's choice (log entry 25). -/
def Obligations.RegisterBlockRows : Prop :=
  ∀ (c : Configuration) (b : Block) (s : State),
    (c.valid = true → exec (.regblock c) s = .next { s with blkl := pack c, seq := .tx }) ∧
    (c.valid = false → exec (.regblock c) s =
      .next { s with
          err := .invalidEnumValue, errBytes := [], errCnt := 0, seq := .exit, target := .normal,
          tmr := s.par.settleMs, phase := .settle1 }) ∧
    exec (.regblockIn b) s =
      .next { s with cfgl := unpack b, seq := .exit, target := .normal, tmr := s.par.settleMs, phase := .settle1 }

/-- The status words: OK and the three errors end the command in flight, the row S_RESPOND, with the warning, the mode (unspecified while INITED is
0), the record of a CFG_READ that succeeded and the bytes of a ShortRead, and after a configuration command the latches CFGL and
BLKL hold free values; the three refusals change the response port only (R84, R153, R154, R185, R187; that a status word is this
row is the model's reading, log entry 14). The free values of the two latches (log entry 6), and that CMDL, which U23 leaves at
any value too, keeps its code after the response (log entry 24), are the model's choices. -/
def Obligations.StatusWordsEndOrDeclineACommand : Prop :=
  ∀ (m : Option Mode) (s u : State), m = (if s.inited then some s.mode else none) →
    u = (if s.cmdl = 0x30 ∨ s.cmdl = 0x31 then
      { s with cfgl := Config.freeRecord s.frees, blkl := Config.freeBlock s.frees, frees := s.frees + 1 } else s) →
    exec .statusOk s = .next { u with
        busy := false, seq := .idle, rspValid := true,
        rsp := { Response.bare .ok with warn := some s.warn, mode := m, cfg := if s.cmdl = 0x30 then some s.cfgl else none } } ∧
    exec .statusShortRead s = .next { u with
        busy := false, seq := .idle, rspValid := true,
        rsp := { Response.bare .shortRead with warn := some s.warn, mode := m, count := s.errCnt, bytes := s.errBytes } } ∧
    exec .statusTransportTimeout s = .next { u with
        busy := false, seq := .idle, rspValid := true,
        rsp := { Response.bare .transportTimeout with warn := some s.warn, mode := m } } ∧
    exec .statusInvalidEnumValue s = .next { u with
        busy := false, seq := .idle, rspValid := true,
        rsp := { Response.bare .invalidEnumValue with warn := some s.warn, mode := m } } ∧
    exec .statusBusy s = .next { s with rspValid := true, rsp := Response.bare .busy } ∧
    exec .statusNotInitialised s = .next { s with rspValid := true, rsp := Response.bare .notInitialised } ∧
    exec .statusIllegalCommand s = .next { s with rspValid := true, rsp := Response.bare .illegalCommand }

/-! ## The tables of the sequencer -/

/-- The phase table of R127, row by row: while a transition is in flight each row does what its line says and no more, where AUX reads
`aux` while it is performed. -/
def Obligations.PhaseTable : Prop :=
  ∀ (aux : Level) (s : State), (s.seq = .enter ∨ s.seq = .exit) →
    (s.phase = .settle1 → 0 < s.tmr → s.row aux = some { s with tmr := s.tmr - 1, now := s.now + 1 }) ∧
    (s.phase = .settle1 → s.tmr = 0 → s.row aux = some { s with phase := .apply }) ∧
    (s.phase = .apply → s.row aux = some { s with
        mode := s.target, msA := s.target.lineA, msB := s.target.lineB,
        inited := true, tmr := s.par.settleMs, phase := .settle2 }) ∧
    (s.phase = .settle2 → 0 < s.tmr → s.row aux = some { s with tmr := s.tmr - 1, now := s.now + 1 }) ∧
    (s.phase = .settle2 → s.tmr = 0 → s.row aux = some { s with phase := .drain }) ∧
    (s.phase = .drain → s.row aux = some { s with rxbuf := [], t0 := s.now, phase := .poll }) ∧
    (s.phase = .poll → aux = .low → s.row aux = some { s with phase := .idle }) ∧
    (s.phase = .poll → aux = .high → s.par.readyTimeoutMs ≤ s.now - s.t0 →
      s.row aux = some { s with warn := true, phase := .idle }) ∧
    (s.phase = .poll → aux = .high → s.now - s.t0 < s.par.readyTimeoutMs →
      s.row aux = some { s with tmr := s.par.pollMs, phase := .pollWait }) ∧
    (s.phase = .pollWait → 0 < s.tmr → s.row aux = some { s with tmr := s.tmr - 1, now := s.now + 1 }) ∧
    (s.phase = .pollWait → s.tmr = 0 → s.row aux = some { s with phase := .poll })

/-- The rows S_RX of CFG_READ, `UartReadExact(11)` of R48: eleven buffered bytes are success, also at the deadline; fewer at the
deadline are a ShortRead that carries them all or, where there are none, a TransportTimeout; before the deadline the wait goes
on. Where the wait ends, only RXBUF, the latches and the request of the transition to Normal change (R52, R153, R182). That a row
which waits on is one millisecond tick, NOW up by 1 and TMR down by 1, is the model's reading (log entry 12); that an error row
sets TARGET, TMR and PHASE itself, with the row P_IDLE of R127 in the same step, is the model's choice (log entry 25). -/
def Obligations.ReadResponseRow : Prop :=
  ∀ (aux : Level) (s : State), s.seq = .rx → s.phase = .idle → s.cmdl = 0x30 →
    (∀ head rest : List Byte, head.length = 11 → s.rxbuf = head ++ rest →
      s.row aux = some { s with rxbuf := rest, blkl := Block.ofBytes (head.drop 3), seq := .decode }) ∧
    (0 < s.rxbuf.length → s.rxbuf.length < 11 → s.par.frameTimeoutMs ≤ s.now - s.ft0 →
      s.row aux = some { s with
          rxbuf := [], err := .shortRead, errBytes := s.rxbuf,
          errCnt := BitVec.ofNat 4 s.rxbuf.length, seq := .exit, target := .normal, tmr := s.par.settleMs, phase := .settle1 }) ∧
    (s.rxbuf = [] → s.par.frameTimeoutMs ≤ s.now - s.ft0 →
      s.row aux = some { s with
          err := .transportTimeout, errBytes := [], errCnt := 0, seq := .exit, target := .normal,
          tmr := s.par.settleMs, phase := .settle1 }) ∧
    (s.rxbuf.length < 11 → s.now - s.ft0 < s.par.frameTimeoutMs →
      s.row aux = some { s with now := s.now + 1, tmr := s.tmr - 1 })

/-- The rows S_RX of CFG_WRITE, `UartReadExact(8)`: the eight acknowledgement bytes are dropped whatever they are; the errors are
those of R48 (R53, R55, R153). That a row which waits on is one millisecond tick, NOW up by 1 and TMR down by 1, is the model's
reading (log entry 12); that the row which ends the wait sets TARGET, TMR and PHASE itself, with the row P_IDLE of R127 in the same
step, is the model's choice (log entry 25). -/
def Obligations.ReadAcknowledgementRow : Prop :=
  ∀ (aux : Level) (s : State), s.seq = .rx → s.phase = .idle → s.cmdl = 0x31 →
    (∀ head rest : List Byte, head.length = 8 → s.rxbuf = head ++ rest →
      s.row aux = some { s with rxbuf := rest, seq := .exit, target := .normal, tmr := s.par.settleMs, phase := .settle1 }) ∧
    (0 < s.rxbuf.length → s.rxbuf.length < 8 → s.par.frameTimeoutMs ≤ s.now - s.ft0 →
      s.row aux = some { s with
          rxbuf := [], err := .shortRead, errBytes := s.rxbuf,
          errCnt := BitVec.ofNat 4 s.rxbuf.length, seq := .exit, target := .normal, tmr := s.par.settleMs, phase := .settle1 }) ∧
    (s.rxbuf = [] → s.par.frameTimeoutMs ≤ s.now - s.ft0 →
      s.row aux = some { s with
          err := .transportTimeout, errBytes := [], errCnt := 0, seq := .exit, target := .normal,
          tmr := s.par.settleMs, phase := .settle1 }) ∧
    (s.rxbuf.length < 8 → s.now - s.ft0 < s.par.frameTimeoutMs →
      s.row aux = some { s with now := s.now + 1, tmr := s.tmr - 1 })

/-- The rows of R153 that hold no wait, exact: where a transition is over, S_ENTER goes on to S_TX, S_ENCODE or, for INIT and SET_MODE,
S_RESPOND, and S_EXIT to S_RESPOND, with no other effect; the encode step, the request frames and the decode step; and the
response, which is driven from ERR, WARN, MODE, CFGL and ERRBYTES and takes BUSY away (R153, R84; the free latches after the
response, log entry 6, and CMDL, which keeps its code, log entry 24, are the model's). That a row which requests the transition to
Normal sets TARGET, TMR and PHASE itself, with the row P_IDLE of R127 in the same step, is the model's choice (log entry 25). -/
def Obligations.CommandTable : Prop :=
  ∀ (aux : Level) (s : State), s.phase = .idle →
    (s.seq = .enter → s.cmdl = 0x30 → s.row aux = some { s with seq := .tx }) ∧
    (s.seq = .enter → s.cmdl = 0x31 → s.row aux = some { s with seq := .encode }) ∧
    (s.seq = .enter → s.cmdl = 0x01 ∨ (∃ m, s.cmdl = codeSetMode m) → s.row aux = some { s with seq := .respond }) ∧
    (s.seq = .encode → s.cmdl = 0x31 → s.cfgl.valid = true → s.row aux = some { s with blkl := pack s.cfgl, seq := .tx }) ∧
    (s.seq = .encode → s.cmdl = 0x31 → s.cfgl.valid = false →
      s.row aux = some { s with
          err := .invalidEnumValue, errBytes := [], errCnt := 0, seq := .exit, target := .normal,
          tmr := s.par.settleMs, phase := .settle1 }) ∧
    (s.seq = .tx → s.cmdl = 0x30 →
      s.row aux = some { s with txlog := s.txlog ++ [0xC1, 0x00, 0x08], ft0 := s.now, seq := .rx }) ∧
    (s.seq = .tx → s.cmdl = 0x31 →
      s.row aux = some { s with txlog := s.txlog ++ [0xC0, 0x00, 0x08] ++ s.blkl.bytes, ft0 := s.now, seq := .rx }) ∧
    (s.seq = .decode → s.cmdl = 0x30 →
      s.row aux = some { s with
          cfgl := unpack s.blkl, seq := .exit, target := .normal, tmr := s.par.settleMs, phase := .settle1 }) ∧
    (s.seq = .exit → s.cmdl = 0x30 ∨ s.cmdl = 0x31 → s.row aux = some { s with seq := .respond }) ∧
    (s.seq = .respond → s.err.isRefusal = false → ∀ u : State,
      u = (if s.cmdl = 0x30 ∨ s.cmdl = 0x31 then
        { s with cfgl := Config.freeRecord s.frees, blkl := Config.freeBlock s.frees, frees := s.frees + 1 } else s) →
      s.row aux = some { u with
          busy := false, seq := .idle, rspValid := true,
          rsp := { Response.bare s.err with
            warn := some s.warn, mode := if s.inited then some s.mode else none,
            cfg := if s.err = .ok ∧ s.cmdl = 0x30 then some s.cfgl else none,
            count := if s.err = .shortRead then s.errCnt else 0,
            bytes := if s.err = .shortRead then s.errBytes else [] } })

/-- MODE and the pins change in no row but P_APPLY, and there all three at once, to TARGET and its levels (R13, R14, R122). -/
def Obligations.OnlyTheApplyRowChangesModeAndPins : Prop :=
  ∀ (aux : Level) (s t : State), s.row aux = some t →
    (t.mode = s.mode ∧ t.msA = s.msA ∧ t.msB = s.msB ∧ t.inited = s.inited) ∨
    (s.phase = .apply ∧ t.mode = s.target ∧ t.msA = s.target.lineA ∧ t.msB = s.target.lineB ∧ t.inited = true)

/-- RXBUF changes in a row only as R24 and R48 say: the drain and a read that times out empty it, a read that succeeds removes 11 or 8
bytes from its head. -/
def Obligations.RowsChangeTheReceiveBufferOnlyByDrainAndRead : Prop :=
  ∀ (aux : Level) (s t : State), s.row aux = some t →
    t.rxbuf = s.rxbuf ∨ (s.phase = .drain ∧ t.rxbuf = []) ∨
    (s.seq = .rx ∧ s.cmdl = 0x30 ∧ t.seq = .decode ∧ 11 ≤ s.rxbuf.length ∧ t.rxbuf = s.rxbuf.drop 11) ∨
    (s.seq = .rx ∧ s.cmdl = 0x31 ∧ t.seq = .exit ∧ 8 ≤ s.rxbuf.length ∧ t.rxbuf = s.rxbuf.drop 8) ∨
    (s.seq = .rx ∧ (t.err = .shortRead ∧ t.errBytes = s.rxbuf) ∧ t.rxbuf = [])

/-- Every error row passes through S_EXIT: ERR changes only to ShortRead, TransportTimeout or InvalidEnumValue, never to OK or to a
refusal, and then leads to S_EXIT with the transition to Normal requested, S_EXIT is left only for S_RESPOND, with the transition over, no
configuration command comes to S_RESPOND but from S_EXIT, and the response carries ERR (R152, R153, R186). That TARGET and PHASE
are set in the error row itself, with the row P_IDLE of R127 in the same step, is the model's choice (log entry 25). -/
def Obligations.EveryErrorLeavesThroughTheExitTransition : Prop :=
  ∀ (aux : Level) (s t : State), s.row aux = some t →
    (t.err ≠ s.err → (t.err = .shortRead ∨ t.err = .transportTimeout ∨ t.err = .invalidEnumValue) ∧
      t.seq = .exit ∧ t.phase = .settle1 ∧ t.target = .normal ∧ t.txlog = s.txlog) ∧
    (s.seq = .exit → t.seq = .exit ∨ (t.seq = .respond ∧ s.phase = .idle)) ∧
    (isConfigCommand s.cmdl = true → s.seq ≠ .respond → t.seq = .respond → s.seq = .exit) ∧
    (s.seq = .respond → s.err.isRefusal = false → t.rsp.status = s.err ∧ t.busy = false)

/-- A warning never changes the path (R157, R184): with the warning flag set otherwise, a row does the same to everything but the
flag and, at the response, its copy. -/
def Obligations.AWarningNeverChangesThePath : Prop :=
  ∀ (aux : Level) (w : Bool) (s t : State), s.row aux = some t →
    ∃ t' : State, { s with warn := w }.row aux = some t' ∧
      { t' with warn := t.warn, rsp := { t'.rsp with warn := t.rsp.warn } } = t

/-! ## Whole commands -/

/-- INIT of an idle block, initialised or not, runs to its response whatever the environment does: status OK, MODE Normal, the pins
driven (low, low), INITED 1, the block idle; it sends nothing, and the latches of the configuration commands, the parameters and
the host's acts are unchanged (R129, R126; that the run to the response is one step is the model's choice, log entry 5, and so is
that CMDL keeps the command's code after the response, log entry 24). -/
def Obligations.InitForcesNormalMode : Prop :=
  ∀ s : State, s.Serialised → s.busy = false →
    ∃ t : State, exec .init s = .next t ∧
      t.mode = .normal ∧ t.msA = .low ∧ t.msB = .low ∧ t.inited = true ∧
      t.busy = false ∧ t.seq = .idle ∧ t.phase = .idle ∧ t.cmdl = 0x01 ∧ t.target = .normal ∧
      t.err = .ok ∧ t.errBytes = [] ∧ t.errCnt = 0 ∧
      t.rspValid = true ∧ t.rsp = Response.ended t.warn .normal ∧
      t.txlog = s.txlog ∧ t.cfgl = s.cfgl ∧ t.blkl = s.blkl ∧ t.ft0 = s.ft0 ∧
      t.par = s.par ∧ t.host = s.host ∧ t.hostWaits = s.hostWaits ∧ s.now ≤ t.now

/-- SET_MODE of any of the four targets, the current mode among them, runs to its response whatever the environment does: status OK,
MODE the target, the pins at its mapped levels, whether or not the ready-wait timed out; it sends nothing, and the latches of the
configuration commands, the parameters and the host's acts are unchanged (R120, R126, R132; that CMDL keeps the command's code after
the response is the model's choice, log entry 24). -/
def Obligations.SetModeReachesItsTarget : Prop :=
  ∀ (m : Mode) (s : State), s.Serialised → s.Accepts →
    ∃ t : State, exec (.setMode m) s = .next t ∧
      t.mode = m ∧ t.msA = m.lineA ∧ t.msB = m.lineB ∧ t.inited = true ∧
      t.busy = false ∧ t.seq = .idle ∧ t.phase = .idle ∧ t.cmdl = codeSetMode m ∧ t.target = m ∧
      t.err = .ok ∧ t.errBytes = [] ∧ t.errCnt = 0 ∧
      t.rspValid = true ∧ t.rsp = Response.ended t.warn m ∧
      t.txlog = s.txlog ∧ t.cfgl = s.cfgl ∧ t.blkl = s.blkl ∧ t.ft0 = s.ft0 ∧
      t.par = s.par ∧ t.host = s.host ∧ t.hostWaits = s.hostWaits ∧ s.now ≤ t.now

/-- CFG_READ runs to its response whatever the environment does, and ends in Normal on every path: it has sent exactly `C1 00 08`;
its status is OK with a valid record, or ShortRead with 1 to 10 bytes and their count, or TransportTimeout with neither;
the error latches hold what the response said (R150, R152, R181, R187; that CMDL keeps the command's code after the response is the
model's choice, log entry 24). -/
def Obligations.CfgReadEndsInNormalOnEveryPath : Prop :=
  ∀ s : State, s.Serialised → s.Accepts →
    ∃ t : State, exec .cfgRead s = .next t ∧
      t.mode = .normal ∧ t.msA = .low ∧ t.msB = .low ∧ t.inited = true ∧
      t.busy = false ∧ t.seq = .idle ∧ t.phase = .idle ∧ t.cmdl = 0x30 ∧
      t.txlog = s.txlog ++ [0xC1, 0x00, 0x08] ∧ t.rspValid = true ∧
      ((∃ c : Configuration, c.valid = true ∧ t.rsp = { Response.ended t.warn .normal with cfg := some c }) ∨
       (∃ bs : List Byte, 1 ≤ bs.length ∧ bs.length ≤ 10 ∧ t.rsp = { Response.ended t.warn .normal with
          status := .shortRead, count := BitVec.ofNat 4 bs.length, bytes := bs }) ∨
       t.rsp = { Response.ended t.warn .normal with status := .transportTimeout }) ∧
      t.err = t.rsp.status ∧ t.errBytes = t.rsp.bytes ∧ t.errCnt = t.rsp.count ∧
      t.par = s.par ∧ t.host = s.host ∧ t.hostWaits = s.hostWaits ∧ s.now ≤ t.now

/-- CFG_WRITE runs to its response whatever the environment does, and ends in Normal on every path. A valid record: it has sent
exactly the header and the packed block, and its status is OK, or ShortRead with 1 to 7 bytes and their count, or
TransportTimeout. An invalid record: it has sent nothing and its status is InvalidEnumValue (R151, R152, R181, R183; that CMDL
keeps the command's code after the response is the model's choice, log entry 24). -/
def Obligations.CfgWriteEndsInNormalOnEveryPath : Prop :=
  ∀ (c : Configuration) (s : State), s.Serialised → s.Accepts →
    ∃ t : State, exec (.cfgWrite c) s = .next t ∧
      t.mode = .normal ∧ t.msA = .low ∧ t.msB = .low ∧ t.inited = true ∧
      t.busy = false ∧ t.seq = .idle ∧ t.phase = .idle ∧ t.cmdl = 0x31 ∧ t.rspValid = true ∧
      (c.valid = true →
        t.txlog = s.txlog ++ [0xC0, 0x00, 0x08] ++ (pack c).bytes ∧
        (t.rsp = Response.ended t.warn .normal ∨
         (∃ bs : List Byte, 1 ≤ bs.length ∧ bs.length ≤ 7 ∧ t.rsp = { Response.ended t.warn .normal with
            status := .shortRead, count := BitVec.ofNat 4 bs.length, bytes := bs }) ∨
         t.rsp = { Response.ended t.warn .normal with status := .transportTimeout })) ∧
      (c.valid = false →
        t.txlog = s.txlog ∧ t.ft0 = s.ft0 ∧
        t.rsp = { Response.ended t.warn .normal with status := .invalidEnumValue }) ∧
      t.err = t.rsp.status ∧ t.errBytes = t.rsp.bytes ∧ t.errCnt = t.rsp.count ∧
      t.par = s.par ∧ t.host = s.host ∧ t.hostWaits = s.hostWaits ∧ s.now ≤ t.now

/-- Where the host does not wait, a sequenced command's step is its acceptance alone, the row S_IDLE: BUSY is set, the flags are
cleared, code and record are latched and the first transition is requested; INIT also in a block that is not initialised, as the
first command after reset is (R153, R129, R20, R21, R26; one row a step is the model's choice, log entry 5, and so is that the
request and the row P_IDLE that takes it are one step, log entry 25). -/
def Obligations.AcceptanceStartsTheFirstTransition : Prop :=
  ∀ (m : Mode) (c : Configuration) (s : State), s.hostWaits = false →
    (s.busy = false →
      exec .init s = .next { s with
          busy := true, warn := false, err := .ok, errBytes := [], errCnt := 0, cmdl := 0x01,
          seq := .enter, target := .normal, tmr := s.par.settleMs, phase := .settle1 }) ∧
    (s.Accepts →
      exec (.setMode m) s = .next { s with
          busy := true, warn := false, err := .ok, errBytes := [], errCnt := 0,
          cmdl := codeSetMode m, seq := .enter, target := m, tmr := s.par.settleMs, phase := .settle1 } ∧
      exec .cfgRead s = .next { s with
          busy := true, warn := false, err := .ok, errBytes := [], errCnt := 0, cmdl := 0x30,
          seq := .enter, target := .program, tmr := s.par.settleMs, phase := .settle1 } ∧
      exec (.cfgWrite c) s = .next { s with
          busy := true, warn := false, err := .ok, errBytes := [], errCnt := 0, cmdl := 0x31,
          cfgl := c, seq := .enter, target := .program, tmr := s.par.settleMs, phase := .settle1 })

/-- After a whole command RXBUF holds exactly the bytes that arrived after the drain (step 4) of its transition: of the one
transition of INIT, also of an uninitialised block, and SET_MODE, and of the last one, to Normal, of CFG_READ and CFG_WRITE; what
arrived before is gone, whatever the environment does (R126, R124, R129, R150, R151; the environment acts once before every row,
log entry 3, and acceptance and the row P_IDLE are one row, log entry 25). -/
def Obligations.ACommandKeepsExactlyTheBytesAfterItsDrain : Prop :=
  ∀ (m : Mode) (c : Configuration) (s t : State), s.Serialised →
    (s.busy = false → exec .init s = .next t → State.KeptSinceDrain (s.start 0x01) .enter t) ∧
    (s.Accepts → exec (.setMode m) s = .next t → State.KeptSinceDrain (s.start (codeSetMode m)) .enter t) ∧
    (s.Accepts → exec .cfgRead s = .next t → State.KeptSinceDrain (s.start 0x30) .exit t) ∧
    (s.Accepts → exec (.cfgWrite c) s = .next t → State.KeptSinceDrain ({ s with cfgl := c }.start 0x31) .exit t)

/-- A CFG_READ whose exchange brings eleven bytes, under ideal timing with AUX low, answers the record of bytes 3 to 10 whatever bytes
0 to 2 are, without a warning, 4 settle delays after it was accepted (R52, R55, R150, R159). The eleven bytes arrive at the first
look of the frame wait; before it nothing arrives. How many acts of the environment come before that look is the model's (log
entries 5 and 25). -/
def Obligations.CfgReadAnswersTheBytesThatArrived : Prop :=
  ∀ (bytes : List Byte) (after : List EnvAct) (n : Nat) (s : State), s.Serialised → s.Accepts → bytes.length = 11 →
    s.env = List.replicate (2 * s.par.settleMs + 7) ⟨0, [], .low⟩ ++ ⟨0, bytes, .low⟩ :: (List.replicate n ⟨0, [], .low⟩ ++ after) →
    2 * s.par.settleMs + 8 ≤ n →
    ∃ t : State, exec .cfgRead s = .next t ∧
      t.rsp = { Response.ended false .normal with cfg := some (unpack (Block.ofBytes (bytes.drop 3))) } ∧
      t.now = s.now + 4 * s.par.settleMs ∧ t.rxbuf = []

/-- What a CFG_READ returned can be written back: the record is valid, so a CFG_WRITE of it does not end in InvalidEnumValue, sends
a canonical payload, and ends in Normal again (R155). -/
def Obligations.AReadRecordCanBeWrittenBack : Prop :=
  ∀ (c : Configuration) (s t u : State), s.Serialised → s.Accepts → exec .cfgRead s = .next t → t.rsp.cfg = some c →
    exec (.cfgWrite c) t = .next u →
    c.valid = true ∧ u.rsp.status ≠ .invalidEnumValue ∧ (pack c).canonical = true ∧
    u.txlog = t.txlog ++ [0xC0, 0x00, 0x08] ++ (pack c).bytes ∧ t.mode = .normal ∧ u.mode = .normal

/-! ## Time -/

/-- A mode transition lasts at least two settle delays and a configuration command at least four, whatever the environment does; INIT
also as the first command after reset (R128, R129, R133, R159). -/
def Obligations.TheSettleDelaysAreLowerBounds : Prop :=
  ∀ (m : Mode) (c : Configuration) (s t : State), s.Serialised →
    (s.busy = false → exec .init s = .next t → s.now + 2 * s.par.settleMs ≤ t.now) ∧
    (s.Accepts → exec (.setMode m) s = .next t → s.now + 2 * s.par.settleMs ≤ t.now) ∧
    (s.Accepts → exec .cfgRead s = .next t → s.now + 4 * s.par.settleMs ≤ t.now) ∧
    (s.Accepts → exec (.cfgWrite c) s = .next t → s.now + 4 * s.par.settleMs ≤ t.now)

/-- Under ideal timing with AUX low a SET_MODE ends without a warning exactly two settle delays after it was accepted (R133). -/
def Obligations.AReadyTransitionLastsTwoSettleDelays : Prop :=
  ∀ (m : Mode) (s : State), s.Serialised → s.Accepts → s.Ideal .low (2 * s.par.settleMs + 7) →
    ∃ t : State, exec (.setMode m) s = .next t ∧
      t.now = s.now + 2 * s.par.settleMs ∧ t.warn = false ∧ t.rsp = Response.ended false m ∧ t.mode = m

/-- Under ideal timing with AUX high throughout, with `K` the timeout in poll intervals rounded up, a SET_MODE takes the `2S + 7 + K * (P + 2)`
steps of its two delays, `K + 1` samples and `K` poll intervals, and ends with the warning `2S + K * P` after it was accepted, in
the target mode all the same (R133, R134, R126; one row a draw is the model's, log entry 5, and so is that a request and the row
P_IDLE are one row, log entry 25). -/
def Obligations.AStuckReadyLineTimesOut : Prop :=
  ∀ (m : Mode) (k : Nat) (s : State), s.Serialised → s.Accepts →
    k = (s.par.readyTimeoutMs + s.par.pollMs - 1) / s.par.pollMs →
    s.Ideal .high (2 * s.par.settleMs + 7 + k * (s.par.pollMs + 2)) →
    ∃ t : State, exec (.setMode m) s = .next t ∧
      t.now = s.now + 2 * s.par.settleMs + k * s.par.pollMs ∧ t.warn = true ∧ t.rsp = Response.ended true m ∧
      t.mode = m ∧ t.msA = m.lineA ∧ t.msB = m.lineB ∧
      t.draws = s.draws + 2 * s.par.settleMs + 7 + k * (s.par.pollMs + 2)

/-! ## Invariants and whole-machine rules -/

/-- The invariant holds right after reset. -/
def Obligations.ResetMeetsTheInvariant : Prop := State.reset.Inv

/-- Every step from a state that meets the invariant gives a state that meets it: the pins show MODE, the error latches agree, the
sequencer stands where the tables put it, MODE is the one that the command's rule gives there, the clocks are in range (R12 to
R23, R27, R28, R126, R127, R152, R153; at idle the invariant reads the last sequenced command from CMDL, the model's choice, log
entries 13 and 24, and it takes a request and the row P_IDLE as one row, log entry 25). -/
def Obligations.EveryStepKeepsTheInvariant : Prop :=
  ∀ s t : State, s.Inv → step s = .next t → t.Inv

/-- From a state that meets the invariant no step faults: a row is enabled wherever a command is in flight (R127, R153). -/
def Obligations.NoStepFaults : Prop := ∀ s : State, s.Inv → s.SafeStep

/-- After every step from a state that meets the invariant: whenever BUSY is 0, SEQ is S_IDLE and PHASE is P_IDLE; whenever PHASE is
not P_IDLE, BUSY is 1 (R28). -/
def Obligations.AnIdleBlockStandsAtIdle : Prop :=
  ∀ s t : State, s.Inv → step s = .next t →
    (t.busy = false → t.seq = .idle ∧ t.phase = .idle) ∧ (t.phase ≠ .idle → t.busy = true)

/-- After every step from a state that meets the invariant: the pins show MODE while INITED is 1; a transition past its step 2 has MODE
at its target, also once its ready-wait has returned: the first transition's target at S_ENTER, Program in the exchange, Normal at
the end of S_EXIT, and at the response and at rest the mode in which the command leaves the block; and an idle initialised block
whose last sequenced command was INIT, CFG_READ or CFG_WRITE rests in Normal (R27, R212). At rest the last command is read from
CMDL, which by the model's choice holds the last sequenced one and keeps it after the response (log entries 13 and 24); that
PHASE P_IDLE at S_ENTER or S_EXIT means a transition that is over, and never one only requested, is the model's choice too (log
entry 25). -/
def Obligations.ModeFollowsTheTransitions : Prop :=
  ∀ s t : State, s.Inv → step s = .next t →
    (t.inited = true → t.pins = some (t.mode.lineA, t.mode.lineB)) ∧
    (t.phase = .settle2 ∨ t.phase = .drain ∨ t.phase = .poll ∨ t.phase = .pollWait → t.mode = t.target) ∧
    (t.seq = .enter → t.phase = .idle → t.mode = entryTarget t.cmdl) ∧
    (t.seq = .encode ∨ t.seq = .tx ∨ t.seq = .rx ∨ t.seq = .decode → t.mode = .program) ∧
    (t.seq = .exit → t.phase = .idle → t.mode = .normal) ∧
    (t.seq = .respond → t.mode = restMode t.cmdl) ∧
    (t.busy = false → t.inited = true → t.mode = restMode t.cmdl) ∧
    (t.busy = false → t.inited = true → (t.cmdl = 0x01 ∨ t.cmdl = 0x30 ∨ t.cmdl = 0x31) → t.mode = .normal)

/-- A step that is no reset only appends to TXLOG, and only a command or a row S_TX appends at all: an idle block to which nothing is
presented sends nothing (R25, R47, R56). -/
def Obligations.TheTransmitLogOnlyGrows : Prop :=
  ∀ s t : State, (∀ rest, s.host ≠ .reset :: rest) → step s = .next t →
    (∃ bs : List Byte, t.txlog = s.txlog ++ bs) ∧
    ((s.host = [] ∨ ∃ rest, s.host = .nothing :: rest) → s.busy = false ∨ s.seq ≠ .tx → t.txlog = s.txlog)

/-- A step that is no reset never takes INITED away (R19). -/
def Obligations.InitedIsClearedByResetOnly : Prop :=
  ∀ s t : State, (∀ rest, s.host ≠ .reset :: rest) → s.inited = true → step s = .next t → t.inited = true

/-- A command in flight is answered within the number of steps that its timeouts bound, whatever the environment does (R5, R125, R159). -/
def Obligations.EveryCommandInFlightIsAnswered : Prop :=
  ∀ s : State, s.Inv → s.busy = true →
    (s.runSteps s.work).busy = false ∧ (s.runSteps s.work).rspValid = true ∧ (s.runSteps s.work).rsp.status.isRefusal = false

/-- One row a step comes to the same response as the run to the response in one step: where the host presents nothing, steps of the
machine lead a busy block to the state that the run gives (R12, R57; the two paces are the model's, log entry 5). -/
def Obligations.RowByRowComesToTheSameResponse : Prop :=
  ∀ s : State, s.Inv → s.busy = true → s.host = [] → s.rspValid = false →
    ∃ k : Nat, Host.Core.run Sys2Proof.core k s = .next (s.runSteps s.work)

/-- What the spec gives a value at reset has it (R30, R210). SETTLE_MS, a configurable parameter and no element of the reset table, is at
its default 40 (R5), the model's choice for the machine after reset (log entry 4). -/
def Obligations.ResetValuesOfTheSpec : Prop :=
  State.reset.inited = false ∧ State.reset.busy = false ∧ State.reset.warn = false ∧ State.reset.err = .ok ∧
  State.reset.errCnt = 0 ∧ State.reset.errBytes = [] ∧ State.reset.seq = .idle ∧ State.reset.phase = .idle ∧
  State.reset.rxbuf = [] ∧ State.reset.txlog = [] ∧ State.reset.rspValid = false ∧ State.reset.pins = none ∧
  State.reset.par.settleMs = 40

/-- A reset, also in the middle of a command, abandons it with no response: the block is idle and uninitialised, the pins are not
driven, both streams are empty (R210, R131). That the parameters (which R211 fixes before reset is released), NOW and the acts of
the environment and of the host outlive a reset is the model's choice (log entry 11). -/
def Obligations.AResetAbandonsTheCommandInFlight : Prop :=
  ∀ (rest : List HostAct) (s : State), s.host = .reset :: rest →
    ∃ t : State, step s = .next t ∧ t.busy = false ∧ t.seq = .idle ∧ t.phase = .idle ∧ t.inited = false ∧ t.pins = none ∧
      t.warn = false ∧ t.err = .ok ∧ t.errBytes = [] ∧ t.errCnt = 0 ∧ t.rxbuf = [] ∧ t.txlog = [] ∧ t.rspValid = false ∧
      t.par = s.par ∧ t.host = rest ∧ t.env = s.env.tail ∧ t.now = s.now + s.draw.dt

/-- What MODE, the pins, TARGET, the timers, the command latches and the response fields hold before INIT matters to no command: of
two idle uninitialised blocks that differ in nothing else, every command gets the same response, sends the same bytes and leaves
the same RXBUF at the same time (R30: no rule reads a value that nothing has written; R13, R19, R22, R23, R26). -/
def Obligations.UnspecifiedResetValuesDoNotMatter : Prop :=
  ∀ (i : Instr) (m tg : Mode) (a b : Level) (x y z : Nat) (cl : Byte) (cf : Configuration) (bl : Block) (r : Response)
    (c : Configuration) (tm : Mode) (blk : Block) (text : List Byte) (s t u : State),
    i ∈ [Instr.init, .getMode, .setMode tm, .encode c, .decode blk, .cfgRead, .cfgWrite c, .lineSend text, .lineRecv] →
    s.busy = false → s.inited = false → s.Serialised →
    exec i s = .next t →
    exec i { s with
        mode := m, msA := a, msB := b, target := tg, tmr := x, t0 := y, ft0 := z, cmdl := cl, cfgl := cf,
        blkl := bl, rsp := r } = .next u →
    t.rsp = u.rsp ∧ t.rspValid = u.rspValid ∧ t.txlog = u.txlog ∧ t.rxbuf = u.rxbuf ∧ t.now = u.now ∧ t.busy = u.busy ∧
    t.inited = u.inited ∧ (t.inited = true → t.mode = u.mode ∧ t.pins = u.pins)

/-- What is dead in a state reaches nothing: two states that agree in everything still to be read step to two such states, so they go
on to the same responses, the same bytes sent, the same RXBUF at the same time; and each of the nine commands, at either pace,
does the same to both. Dead are: in every state the response fields without their pulse; in an idle block TARGET, TMR, T0, FT0 and
the latches CMDL, CFGL and BLKL, whatever command went before; and while INITED is 0 also MODE and the pins (R30: no rule reads a value that
nothing has written; R154: nothing is kept between commands; U23, U24). -/
def Obligations.WhatIsDeadReachesNothing : Prop :=
  (∀ (tg : Mode) (x y z : Nat) (cl : Byte) (cf : Configuration) (bl : Block) (r : Response) (s : State),
    s.busy = false → s.seq = .idle → s.phase = .idle → s.rspValid = false →
    { s with target := tg, tmr := x, t0 := y, ft0 := z, cmdl := cl, cfgl := cf, blkl := bl, rsp := r }.live = s.live ∧
    (s.inited = false → ∀ (m : Mode) (a b : Level), { s with
        mode := m, msA := a, msB := b, target := tg, tmr := x, t0 := y, ft0 := z, cmdl := cl, cfgl := cf, blkl := bl,
        rsp := r }.live = s.live)) ∧
  (∀ s u : State, s.live = u.live →
    s.now = u.now ∧ s.txlog = u.txlog ∧ s.rxbuf = u.rxbuf ∧ s.pins = u.pins ∧ s.busy = u.busy ∧ s.inited = u.inited ∧
    s.warn = u.warn ∧ s.err = u.err ∧ s.errBytes = u.errBytes ∧ s.rspValid = u.rspValid ∧ (s.rspValid = true → s.rsp = u.rsp)) ∧
  (∀ s t u : State, s.live = u.live → step s = .next t → ∃ t', step u = .next t' ∧ t'.live = t.live) ∧
  (∀ (m : Mode) (c : Configuration) (b : Block) (text : List Byte) (s t u : State), s.live = u.live →
    ∀ i ∈ [Instr.init, .getMode, .setMode m, .encode c, .decode b, .cfgRead, .cfgWrite c, .lineSend text, .lineRecv],
      exec i s = .next t → ∃ t', exec i u = .next t' ∧ t'.live = t.live)
end

