-- ==== Sys2Proof/Laws/Commands.lean ====
section
/-! SUPPORT. What a command at the port can do, what the decoder can answer at the command port, what a step can do, and what the
line splitter finds. -/

namespace Sys2Proof.Machine

/-- Everything a command at the port can do: refused with Busy, refused with NotInitialised, or performed (R185). -/
theorem runCommand_cases (needsInit : Bool) (body : State → State) (s : State) :
    (s.busy = true ∧ runCommand needsInit body s = .next (s.refuse .busy)) ∨
    (s.busy = false ∧ needsInit = true ∧ s.inited = false ∧ runCommand needsInit body s = .next (s.refuse .notInitialised)) ∨
    (s.busy = false ∧ (needsInit = true → s.inited = true) ∧ runCommand needsInit body s = .next (body s)) := by
  cases hb : s.busy <;> cases hn : needsInit <;> cases hi : s.inited <;> simp [runCommand, State.refusal, hb, hi]

/-- A command that the block accepts is performed. -/
theorem runCommand_accepted {s : State} (needsInit : Bool) (body : State → State) (hb : s.busy = false) (hi : s.inited = true) :
    runCommand needsInit body s = .next (body s) := by
  simp [runCommand, State.refusal, hb, hi]

/-- An instruction that the decoder reads at the command port is one of the nine commands, with the port's own operands (R83). -/
theorem decodeCommand_cases {p : CommandPort} {i : Instr} (h : decode (.command p) = .ok i) :
    i = .init ∨ i = .getMode ∨ i = .setMode (setModeTarget p.code) ∨ i = .encode p.cfg ∨ i = .decode p.blk ∨ i = .cfgRead ∨
      i = .cfgWrite p.cfg ∨ i = .lineSend p.text ∨ i = .lineRecv := by
  simp only [decode, decodeCommand] at h
  repeat' split at h
  all_goals simp_all

/-- What a step does where the host presents nothing (R57). -/
theorem step_of_no_command {s : State} (h : s.host = [] ∨ ∃ rest, s.host = .nothing :: rest) :
    step s = s.stepStart.quiet s.draw.aux := by
  rcases h with h | ⟨_, h⟩ <;> simp [step, h]

/-- Everything a block to which nothing is presented can do: stand still, perform a row, or fault. -/
theorem quiet_cases (aux : Level) (s : State) :
    (s.busy = false ∧ s.quiet aux = .next s) ∨
    (s.busy = true ∧ ∃ t, s.row aux = some t ∧ s.quiet aux = .next t) ∨
    (s.busy = true ∧ s.row aux = none ∧ s.quiet aux = .fault .noRowEnabled) := by
  cases hb : s.busy
  · simp [State.quiet, hb]
  · cases hr : s.row aux <;> simp [State.quiet, hb, hr]

/-- A presentation of a word the decoder refuses is answered with IllegalCommand (R85, R188). -/
theorem step_of_illegal {s : State} {p : CommandPort} {w : Bool} {rest : List HostAct} {r : Reject}
    (h : s.host = .present p w :: rest) (hd : decode (.command p) = .error r) :
    step s = .next ({ s.stepStart with hostWaits := w }.refuse .illegalCommand) := by
  simp [step, h, hd]

/-- The line splitter finds the bytes before the first terminator (R171, R172). -/
theorem splitLine_of_terminator (line rest : List Byte) (h : Config.newline ∉ line) :
    splitLine (line ++ Config.newline :: rest) = some (line, rest) := by
  induction line with
  | nil => simp [splitLine]
  | cons b l ih =>
    simp only [List.mem_cons, not_or] at h
    simp [splitLine, ih h.2, Ne.symm h.1]

/-- Without a terminator there is no line (R171). -/
theorem splitLine_of_none (l : List Byte) (h : Config.newline ∉ l) : splitLine l = none := by
  induction l with
  | nil => rfl
  | cons b l ih =>
    simp only [List.mem_cons, not_or] at h
    simp [splitLine, ih h.2, Ne.symm h.1]

end Sys2Proof.Machine
end

