-- ==== Sys2Proof/Laws/Live.lean ====
section
/-! SUPPORT. The small lemmas of the definitions by which statements speak of a run's arrivals and of what is still to be read. -/

namespace Sys2Proof.Machine.State

/-! ### Arrivals -/

@[simp] theorem arrivals_zero (s : State) : s.arrivals 0 = [] := by simp [arrivals, arrivalsFrom]

/-- The first of the coming arrivals is that of the coming act. -/
theorem arrivals_succ (n : Nat) (s : State) : s.arrivals (n + 1) = s.draw.arrive ++ s.envStep.arrivals n := rfl

/-- Only the environment's list and the count of draws decide what arrives. -/
theorem arrivals_congr {s u : State} (he : s.env = u.env) (hd : s.draws = u.draws) (n : Nat) : s.arrivals n = u.arrivals n := by
  simp [arrivals, he, hd]

/-! ### What is still to be read -/

@[simp] theorem live_seq (s : State) : s.live.seq = s.seq := rfl
@[simp] theorem live_phase (s : State) : s.live.phase = s.phase := rfl
@[simp] theorem live_inited (s : State) : s.live.inited = s.inited := rfl
@[simp] theorem live_busy (s : State) : s.live.busy = s.busy := rfl
@[simp] theorem live_warn (s : State) : s.live.warn = s.warn := rfl
@[simp] theorem live_err (s : State) : s.live.err = s.err := rfl
@[simp] theorem live_errBytes (s : State) : s.live.errBytes = s.errBytes := rfl
@[simp] theorem live_errCnt (s : State) : s.live.errCnt = s.errCnt := rfl
@[simp] theorem live_rxbuf (s : State) : s.live.rxbuf = s.rxbuf := rfl
@[simp] theorem live_txlog (s : State) : s.live.txlog = s.txlog := rfl
@[simp] theorem live_rspValid (s : State) : s.live.rspValid = s.rspValid := rfl
@[simp] theorem live_par (s : State) : s.live.par = s.par := rfl
@[simp] theorem live_now (s : State) : s.live.now = s.now := rfl
@[simp] theorem live_env (s : State) : s.live.env = s.env := rfl
@[simp] theorem live_draws (s : State) : s.live.draws = s.draws := rfl
@[simp] theorem live_frees (s : State) : s.live.frees = s.frees := rfl
@[simp] theorem live_host (s : State) : s.live.host = s.host := rfl
@[simp] theorem live_hostWaits (s : State) : s.live.hostWaits = s.hostWaits := rfl
@[simp] theorem live_draw (s : State) : s.live.draw = s.draw := rfl

/-- The pins, as the module sees them, are read. -/
@[simp] theorem live_pins (s : State) : s.live.pins = s.pins := by
  cases h : s.inited <;> simp [pins, live, h]

/-- The mode is read once it is set. -/
theorem live_mode {s : State} (h : s.inited = true) : s.live.mode = s.mode := by simp [live, h]

/-- The response is read while its pulse stands. -/
theorem live_rsp {s : State} (h : s.rspValid = true) : s.live.rsp = s.rsp := by simp [live, h]

/-- The record of a CFG_WRITE is still to be read until it is encoded. -/
theorem live_cfgl {s : State} (h : s.cfglLive = true) : s.live.cfgl = s.cfgl := by simp [live, h]

/-- A block is still to be read between its latching and its use. -/
theorem live_blkl {s : State} (h : s.blklLive = true) : s.live.blkl = s.blkl := by simp [live, h]

end Sys2Proof.Machine.State
end

