-- ==== Sys2Proof/Laws/PerInstr.lean ====
section
/-! SUPPORT. The statements made for every instruction, one lemma per constructor. -/

namespace Sys2Proof.Laws

/-- The number of bits that R70 gives the format of an instruction's word: CMD 8, REGBLOCK 64, a read request 24, a write request 24
of header and 64 of payload, MODESEL 2, STATUS 4. -/
def formatBits : Instr → Nat
  | .init => 8
  | .getMode => 8
  | .setMode _ => 8
  | .encode _ => 8
  | .decode _ => 8
  | .cfgRead => 8
  | .cfgWrite _ => 8
  | .lineSend _ => 8
  | .lineRecv => 8
  | .regblock _ => 64
  | .regblockIn _ => 64
  | .wireReadReq => 24
  | .wireWriteReq _ => 24 + 64
  | .modeNormal => 2
  | .modeWakeUp => 2
  | .modePowerDown => 2
  | .modeProgram => 2
  | .statusOk => 4
  | .statusShortRead => 4
  | .statusTransportTimeout => 4
  | .statusInvalidEnumValue => 4
  | .statusBusy => 4
  | .statusNotInitialised => 4
  | .statusIllegalCommand => 4

/-- The word that the encoder gives an instruction has the width of the instruction's format (R70). -/
def EncodedWidth.Statement (i : Instr) : Prop := (encode i).bits = formatBits i

theorem EncodedWidth.init : EncodedWidth.Statement .init := rfl
theorem EncodedWidth.getMode : EncodedWidth.Statement .getMode := rfl
theorem EncodedWidth.setMode (target : Mode) : EncodedWidth.Statement (.setMode target) := rfl
theorem EncodedWidth.encode (cfg : Configuration) : EncodedWidth.Statement (.encode cfg) := rfl
theorem EncodedWidth.decode (blk : Block) : EncodedWidth.Statement (.decode blk) := rfl
theorem EncodedWidth.cfgRead : EncodedWidth.Statement .cfgRead := rfl
theorem EncodedWidth.cfgWrite (cfg : Configuration) : EncodedWidth.Statement (.cfgWrite cfg) := rfl
theorem EncodedWidth.lineSend (text : List Byte) : EncodedWidth.Statement (.lineSend text) := rfl
theorem EncodedWidth.lineRecv : EncodedWidth.Statement .lineRecv := rfl
theorem EncodedWidth.regblock (cfg : Configuration) : EncodedWidth.Statement (.regblock cfg) := rfl
theorem EncodedWidth.regblockIn (blk : Block) : EncodedWidth.Statement (.regblockIn blk) := rfl
theorem EncodedWidth.wireReadReq : EncodedWidth.Statement .wireReadReq := rfl
theorem EncodedWidth.wireWriteReq (blk : Block) : EncodedWidth.Statement (.wireWriteReq blk) := rfl
theorem EncodedWidth.modeNormal : EncodedWidth.Statement .modeNormal := rfl
theorem EncodedWidth.modeWakeUp : EncodedWidth.Statement .modeWakeUp := rfl
theorem EncodedWidth.modePowerDown : EncodedWidth.Statement .modePowerDown := rfl
theorem EncodedWidth.modeProgram : EncodedWidth.Statement .modeProgram := rfl
theorem EncodedWidth.statusOk : EncodedWidth.Statement .statusOk := rfl
theorem EncodedWidth.statusShortRead : EncodedWidth.Statement .statusShortRead := rfl
theorem EncodedWidth.statusTransportTimeout : EncodedWidth.Statement .statusTransportTimeout := rfl
theorem EncodedWidth.statusInvalidEnumValue : EncodedWidth.Statement .statusInvalidEnumValue := rfl
theorem EncodedWidth.statusBusy : EncodedWidth.Statement .statusBusy := rfl
theorem EncodedWidth.statusNotInitialised : EncodedWidth.Statement .statusNotInitialised := rfl
theorem EncodedWidth.statusIllegalCommand : EncodedWidth.Statement .statusIllegalCommand := rfl

end Sys2Proof.Laws
end

