-- ==== Sys2Proof/Tests/Slice0.lean ====
section
/-! SUPPORT. The author's own tests: ill-formed terms, decodings of words written out from the tables of the spec, one step of every
instruction with the results of spec/95_test_vectors.md or of a rule's worked example, and witnesses that the hypotheses of the
obligations can be met. -/

namespace Sys2Proof.Tests

open Sys2Proof.Machine

set_option Elab.async false

/-! ## Helpers -/

/-- The record of the source's worked example (vector V2). -/
def recordV2 : Configuration :=
  { Configuration.zero with baudRate := 3, transmitPower := 3, channel := 23 }

/-- The block of vector V2. -/
def blockV2 : Block := ⟨0x00, 0x00, 0x60, 0x03, 0x17, 0x00, 0x00, 0x00⟩

/-- The record of DECODE's worked example (R101; vector V37). -/
def recordV37 : Configuration :=
  { address := 0x1234, baudRate := 7, parity := 0, airDataRate := 7, subPacketSize := 3, rssiAmbientNoise := false,
    transmitPower := 2, channel := 65, rssiByteEnable := true, transmissionMethod := 1, lbtEnable := true, worCycle := 5,
    encryptionKey := 0xABCD }

/-- The block of DECODE's worked example. -/
def blockV37 : Block := ⟨0x12, 0x34, 0xE7, 0xC2, 0x41, 0xD5, 0xAB, 0xCD⟩

/-- A record whose baudRate index is one past the enumeration (vector V41). -/
def recordV41 : Configuration := { Configuration.zero with baudRate := 8 }

/-- Short delays: SETTLE_MS 1, POLL_MS 1, READY_TIMEOUT_MS 1, FRAME_TIMEOUT_MS 2. -/
def quick : Params := ⟨1, 1, 1, 2⟩

/-- `n` acts of an environment in which no time passes of its own, no byte arrives and AUX is at one level. -/
def still (level : Level) (n : Nat) : List EnvAct := List.replicate n ⟨0, [], level⟩

/-- A block after reset with short delays and a scripted environment. -/
def fresh (env : List EnvAct) : State := { State.reset with par := quick, env := env }

/-- The same, initialised and idle in Normal. -/
def ready (env : List EnvAct) : State := { fresh env with inited := true, cmdl := codeInit }

/-- The same with a SET_MODE Program just accepted. -/
def flying (env : List EnvAct) : State :=
  { ready env with busy := true, cmdl := codeSetMode .program, seq := .enter, target := .program, tmr := 1, phase := .settle1 }

/-- A port that shows LINE_SEND with a text. -/
def sendPort (text : List Byte) : CommandPort := { CommandPort.ofCode codeLineSend with text := text }

/-- The next state, where there is one. -/
def next? (o : Host.Outcome State Fault Refusal) : Option State :=
  match o with
  | .next t => some t
  | .fault _ => none
  | .refused _ => none

/-- One field of the next state. -/
def look {α : Type} (f : State → α) (o : Host.Outcome State Fault Refusal) : Option α := (next? o).map f

/-! ## WellFormed: each check refuses an ill-formed term -/

theorem test_wf_line_with_terminator : (Instr.lineSend [0x68, 0x0A, 0x69]).wf = false := by decide
theorem test_wf_record_out_of_range : (Instr.regblock recordV41).wf = false := by decide
theorem test_wf_reserved_bit_set : (Instr.wireWriteReq { blockV2 with b5 := 0x08 }).wf = false := by decide
theorem test_wf_well_formed_terms :
    (Instr.lineSend [0x68, 0x69]).wf = true ∧ (Instr.regblock recordV37).wf = true ∧ (Instr.wireWriteReq blockV37).wf = true := by
  decide

/-! ## Decoding: words written out bit by bit (R71, R78, R79, R83, R84) -/

theorem test_decode_init : decode (.command (CommandPort.ofCode 0b00000001)) = .ok .init := by decide
theorem test_decode_getMode : decode (.command (CommandPort.ofCode 0b00000010)) = .ok .getMode := by decide
theorem test_decode_setMode :
    decode (.command (CommandPort.ofCode 0b00010000)) = .ok (.setMode .normal) ∧
    decode (.command (CommandPort.ofCode 0b00010001)) = .ok (.setMode .wakeUp) ∧
    decode (.command (CommandPort.ofCode 0b00010010)) = .ok (.setMode .powerDown) ∧
    decode (.command (CommandPort.ofCode 0b00010011)) = .ok (.setMode .program) := by decide
theorem test_decode_encode :
    decode (.command { code := 0b00100000, cfg := recordV2, blk := Block.zero, text := [] }) = .ok (.encode recordV2) := by decide
theorem test_decode_decode :
    decode (.command { code := 0b00100001, cfg := recordV2, blk := blockV37, text := [] }) = .ok (.decode blockV37) := by decide
theorem test_decode_cfgRead : decode (.command (CommandPort.ofCode 0b00110000)) = .ok .cfgRead := by decide
theorem test_decode_cfgWrite :
    decode (.command { code := 0b00110001, cfg := recordV41, blk := Block.zero, text := [] }) = .ok (.cfgWrite recordV41) := by decide
theorem test_decode_lineSend :
    decode (.command { code := 0b01000000, cfg := recordV2, blk := Block.zero, text := [0x68, 0x69] }) =
      .ok (.lineSend [0x68, 0x69]) := by decide
theorem test_decode_lineRecv : decode (.command (CommandPort.ofCode 0b01000001)) = .ok .lineRecv := by decide
theorem test_decode_regblock :
    decode (.blockOut ⟨0b00010010, 0b00110100, 0b11100111, 0b11000010, 0b01000001, 0b11010101, 0b10101011, 0b11001101⟩) =
      .ok (.regblock recordV37) := by decide
theorem test_decode_regblockIn :
    decode (.blockIn ⟨0b00000000, 0b00000000, 0b01100000, 0b00011111, 0b00010111, 0b00101000, 0b00000000, 0b00000000⟩) =
      .ok (.regblockIn ⟨0x00, 0x00, 0x60, 0x1F, 0x17, 0x28, 0x00, 0x00⟩) := by decide
theorem test_decode_wireReadReq : decode (.wire [0b11000001, 0b00000000, 0b00001000]) = .ok .wireReadReq := by decide
theorem test_decode_wireWriteReq :
    decode (.wire [0b11000000, 0b00000000, 0b00001000, 0x00, 0x00, 0b01100000, 0b00000011, 0b00010111, 0x00, 0x00, 0x00]) =
      .ok (.wireWriteReq blockV2) := by decide
theorem test_decode_modes :
    decode (.modeSelect 0b00) = .ok .modeNormal ∧ decode (.modeSelect 0b01) = .ok .modeWakeUp ∧
    decode (.modeSelect 0b10) = .ok .modePowerDown ∧ decode (.modeSelect 0b11) = .ok .modeProgram := by decide
theorem test_decode_statuses :
    decode (.status 0b0000) = .ok .statusOk ∧ decode (.status 0b0001) = .ok .statusShortRead ∧
    decode (.status 0b0010) = .ok .statusTransportTimeout ∧ decode (.status 0b0011) = .ok .statusInvalidEnumValue ∧
    decode (.status 0b1000) = .ok .statusBusy ∧ decode (.status 0b1001) = .ok .statusNotInitialised ∧
    decode (.status 0b1010) = .ok .statusIllegalCommand := by decide

/-- Words of no row are rejected by name: vector M22's codes, a reserved status, a frame with a wrong length byte, a block that ENCODE
never makes. -/
theorem test_decode_rejects :
    decode (.command (CommandPort.ofCode 0x00)) = .error (.illegalCommand 0x00) ∧
    decode (.command (CommandPort.ofCode 0x14)) = .error (.illegalCommand 0x14) ∧
    decode (.command (CommandPort.ofCode 0xFF)) = .error (.illegalCommand 0xFF) ∧
    decode (.status 0b1011) = .error (.reservedStatus 0b1011) ∧
    decode (.wire [0xC1, 0x00, 0x09]) = .error .notARequestFrame ∧
    decode (.blockOut { blockV2 with b3 := 0x07 }) = .error (.reservedBitsSet { blockV2 with b3 := 0x07 }) := by decide

/-- Words numbered as the table numbers them. -/
theorem test_decodeTableWord :
    decodeTableWord 8 0x30 = some .cfgRead ∧ decodeTableWord 2 3 = some .modeProgram ∧ decodeTableWord 4 9 = some .statusNotInitialised ∧
    decodeTableWord 24 0xC10008 = some .wireReadReq ∧ decodeTableWord 88 0xC000080000600317000000 = some (.wireWriteReq blockV2) ∧
    decodeTableWord 64 0x0000600317000000 = some (.regblock recordV2) ∧
    decodeTableWord 64 0x0000601F17280000 = some (.regblockIn ⟨0x00, 0x00, 0x60, 0x1F, 0x17, 0x28, 0x00, 0x00⟩) := by decide

/-- The codes of R12. -/
theorem test_sequencer_codes : Phase.code .pollWait = 6 ∧ Phase.code .apply = 2 ∧ Seq.code .rx = 4 ∧ Seq.code .respond = 7 := by decide

/-! ## The codec (vectors V2, V3, V37, V41; the corner cases of R100 and R101) -/

theorem test_encode_example :
    look (·.rsp) (exec (.encode recordV2) (fresh [])) = some { Response.bare .ok with blk := some blockV2 } := by decide
theorem test_encode_out_of_range :
    look (·.rsp) (exec (.encode recordV41) (fresh [])) = some (Response.bare .invalidEnumValue) := by decide
theorem test_decode_example :
    look (·.rsp) (exec (.decode blockV37) (fresh [])) = some { Response.bare .ok with cfg := some recordV37 } := by decide
theorem test_decode_ignores_reserved_bits :
    look (·.rsp.cfg) (exec (.decode ⟨0x00, 0x00, 0x60, 0x1F, 0x17, 0x28, 0x00, 0x00⟩) (fresh [])) = some (some recordV2) := by decide
theorem test_pack_maximum :
    pack ⟨0xFFFF, 7, 3, 7, 3, true, 3, 0xFF, true, 1, true, 7, 0xFFFF⟩ = ⟨0xFF, 0xFF, 0xFF, 0xE3, 0xFF, 0xD7, 0xFF, 0xFF⟩ := by decide

/-! ## The mode controller (R133: a transition of `2S`, or `2S + K * P` with the warning; vectors M1 to M9, M19, M25, M26) -/

theorem test_init_ready :
    look (fun t => (t.rsp, t.now, t.inited, t.pins)) (exec .init (fresh (still .low 9))) =
      some (Response.ended false .normal, 2, true, some (.low, .low)) := by decide +kernel
theorem test_init_stuck_line :
    look (fun t => (t.rsp, t.now, t.mode)) (exec .init (fresh (still .high 12))) =
      some (Response.ended true .normal, 3, .normal) := by decide +kernel
theorem test_setMode_powerDown :
    look (fun t => (t.rsp, t.now, t.pins)) (exec (.setMode .powerDown) (ready (still .low 9))) =
      some (Response.ended false .powerDown, 2, some (.low, .high)) := by decide +kernel
/-- M17, M18: bytes before the drain are lost, bytes after it stay. The drain is the sixth row. -/
theorem test_setMode_drains :
    look (fun t => (t.rxbuf, t.rsp.warn)) (exec (.setMode .wakeUp)
      { ready (still .low 5 ++ [⟨0, [0xAA], .low⟩, ⟨0, [0xCC], .low⟩] ++ still .low 2) with rxbuf := [0x68, 0x0A] }) =
      some ([0xCC], some false) := by decide +kernel
theorem test_getMode :
    look (·.rsp) (exec .getMode { ready [] with mode := .program }) = some { Response.bare .ok with mode := some .program } := by decide
theorem test_getMode_uninitialised : look (·.rsp) (exec .getMode (fresh [])) = some (Response.bare .notInitialised) := by decide

/-! ## Configuration transactions (vectors T1, T2, T4, T5, T8, T9, T11) -/

/-- T2: the echo is not checked. The read's first look at RXBUF is the tenth row. -/
theorem test_cfgRead_ok :
    look (fun t => (t.rsp, t.now, t.txlog)) (exec .cfgRead (ready (still .low 9 ++
      ⟨0, [0x00, 0x00, 0x00, 0x12, 0x34, 0xE7, 0xC2, 0x41, 0xD5, 0xAB, 0xCD], .low⟩ :: still .low 10))) =
      some ({ Response.ended false .normal with cfg := some recordV37 }, 4, [0xC1, 0x00, 0x08]) := by decide +kernel
/-- T6: one byte of eleven; the frame timeout is 2 ms. -/
theorem test_cfgRead_short :
    look (fun t => (t.rsp, t.now, t.mode)) (exec .cfgRead (ready (still .low 9 ++ ⟨0, [0xC1], .low⟩ :: still .low 11))) =
      some ({ Response.ended false .normal with status := .shortRead, count := 1, bytes := [0xC1] }, 6, .normal) := by decide +kernel
theorem test_cfgWrite_ok :
    look (fun t => (t.rsp, t.now, t.txlog)) (exec (.cfgWrite recordV2) (ready (still .low 10 ++
      ⟨0, [0x00, 0x00, 0x00, 0x00, 0x00, 0x00, 0x00, 0x00], .low⟩ :: still .low 9))) =
      some (Response.ended false .normal, 4, [0xC0, 0x00, 0x08, 0x00, 0x00, 0x60, 0x03, 0x17, 0x00, 0x00, 0x00]) := by decide +kernel
/-- T9: an invalid record costs two transitions and sends nothing. -/
theorem test_cfgWrite_invalid :
    look (fun t => (t.rsp, t.now, t.txlog)) (exec (.cfgWrite recordV41) (ready (still .low 18))) =
      some ({ Response.ended false .normal with status := .invalidEnumValue }, 4, []) := by decide +kernel

/-! ## UartReadExact (vectors RX3, RX5, RX7, RX9, RX10) -/

theorem test_readExact_leaves_the_rest :
    (State.readLook 8 { ready [] with rxbuf := [1, 2, 3, 4, 5, 6, 7, 8, 9, 10] } = .done [1, 2, 3, 4, 5, 6, 7, 8]) ∧
    ({ ready [] with rxbuf := [1, 2, 3, 4, 5, 6, 7, 8, 9, 10] }.takeBytes 8).rxbuf = [9, 10] := by decide
theorem test_readExact_at_the_deadline :
    State.readLook 3 { ready [] with now := 2, rxbuf := [1, 2, 3] } = .done [1, 2, 3] ∧
    State.readLook 3 { ready [] with now := 2, rxbuf := [1, 2] } = .short [1, 2] ∧
    State.readLook 3 { ready [] with now := 2 } = .empty ∧
    State.readLook 3 { ready [] with now := 1, rxbuf := [1, 2] } = .waiting := by decide

/-! ## The line port (vectors L1, L2, L3, L4, L6) -/

theorem test_lineSend : look (·.txlog) (exec (.lineSend [0x68, 0x69]) (ready [])) = some [0x68, 0x69, 0x0A] := by decide
theorem test_lineSend_empty : look (·.txlog) (exec (.lineSend []) (ready [])) = some [0x0A] := by decide
theorem test_lineRecv :
    look (fun t => (t.rsp.text, t.rsp.hasData, t.rxbuf)) (exec .lineRecv { ready [] with rxbuf := [0x6F, 0x6B, 0x0A, 0x78] }) =
      some (some [0x6F, 0x6B], some true, [0x78]) := by decide
theorem test_lineRecv_partial_line :
    look (fun t => (t.rsp.hasData, t.rsp.status, t.rxbuf)) (exec .lineRecv { ready [] with rxbuf := [0x78] }) =
      some (some false, .ok, [0x78]) := by decide

/-! ## The words of the block's own formats -/

theorem test_regblock :
    look (fun t => (t.blkl, t.seq)) (exec (.regblock recordV37) (ready [])) = some (blockV37, .tx) := by decide
theorem test_regblockIn :
    look (fun t => (t.cfgl, t.seq, t.phase, t.target)) (exec (.regblockIn blockV37) (ready [])) =
      some (recordV37, .exit, .settle1, .normal) := by decide
theorem test_wireReadReq :
    look (fun t => (t.txlog, t.ft0)) (exec .wireReadReq { ready [] with now := 7, txlog := [0x0A] }) =
      some ([0x0A, 0xC1, 0x00, 0x08], 7) := by decide
theorem test_wireWriteReq :
    look (·.txlog) (exec (.wireWriteReq blockV37) (ready [])) =
      some [0xC0, 0x00, 0x08, 0x12, 0x34, 0xE7, 0xC2, 0x41, 0xD5, 0xAB, 0xCD] := by decide
theorem test_modeNormal :
    look (fun t => (t.mode, t.pins)) (exec .modeNormal (fresh [])) = some (.normal, some (.low, .low)) := by decide
theorem test_modeWakeUp :
    look (fun t => (t.mode, t.pins)) (exec .modeWakeUp (fresh [])) = some (.wakeUp, some (.high, .low)) := by decide
theorem test_modePowerDown :
    look (fun t => (t.mode, t.pins)) (exec .modePowerDown (fresh [])) = some (.powerDown, some (.low, .high)) := by decide
theorem test_modeProgram :
    look (fun t => (t.mode, t.pins)) (exec .modeProgram (fresh [])) = some (.program, some (.high, .high)) := by decide
theorem test_statusOk : look (fun t => (t.rsp.status, t.busy)) (exec .statusOk (flying [])) = some (.ok, false) := by decide
/-- P4: count 5 and the five bytes. -/
theorem test_statusShortRead :
    look (fun t => (t.rsp.count, t.rsp.bytes, t.busy)) (exec .statusShortRead
      { flying [] with errBytes := [0xC1, 0x00, 0x08, 0x12, 0x34], errCnt := 5 }) =
      some (5, [0xC1, 0x00, 0x08, 0x12, 0x34], false) := by decide
theorem test_statusTransportTimeout :
    look (fun t => (t.rsp.status, t.rsp.count, t.busy)) (exec .statusTransportTimeout (flying [])) =
      some (.transportTimeout, 0, false) := by decide
theorem test_statusInvalidEnumValue :
    look (fun t => (t.rsp.status, t.rsp.blk, t.busy)) (exec .statusInvalidEnumValue (flying [])) =
      some (.invalidEnumValue, none, false) := by decide
theorem test_statusBusy : look (fun t => (t.rsp, t.busy)) (exec .statusBusy (flying [])) = some (Response.bare .busy, true) := by decide
theorem test_statusNotInitialised :
    look (fun t => (t.rsp, t.inited)) (exec .statusNotInitialised (fresh [])) = some (Response.bare .notInitialised, false) := by decide
theorem test_statusIllegalCommand :
    look (fun t => (t.rsp, t.busy)) (exec .statusIllegalCommand (flying [])) = some (Response.bare .illegalCommand, true) := by decide

/-! ## The step (vectors M22, M24; R170) -/

theorem test_step_illegal_code_while_busy :
    look (·.rsp) (step { flying (still .low 1) with host := [.present (CommandPort.ofCode 0xFF) true] }) =
      some (Response.bare .illegalCommand) := by decide
theorem test_step_terminator_in_text :
    next? (step { ready (still .low 1) with host := [.present (sendPort [0x61, 0x0A]) true] }) = none := by decide
theorem test_step_performs_one_row :
    look (fun t => (t.tmr, t.now, t.phase)) (step (flying (still .low 1))) = some (0, 1, .settle1) := by decide

/-! ## Witnesses: the hypotheses of each obligation are met together -/

/-- Two idle acts of a host. -/
def idleHost : List HostAct := [.nothing]

theorem ready_accepts (env : List EnvAct) : (ready env).Accepts := ⟨rfl, rfl⟩
theorem ready_serialised (env : List EnvAct) : (ready env).Serialised := ⟨rfl, (by decide : 1 ≤ quick.pollMs)⟩
theorem fresh_serialised (env : List EnvAct) : (fresh env).Serialised := ⟨rfl, (by decide : 1 ≤ quick.pollMs)⟩

/-- An idle initialised block meets the invariant. -/
theorem ready_inv (env : List EnvAct) : (ready env).Inv :=
  ⟨fun _ => (by decide : Level.low = Mode.normal.lineA ∧ Level.low = Mode.normal.lineB),
   ⟨rfl, by simp [ready, fresh, State.reset], Nat.zero_le _, rfl⟩,
   ⟨fun _ => ⟨rfl, rfl⟩, by simp [ready, fresh, State.reset], by simp [ready, fresh, State.reset], by simp [ready, fresh, State.reset, Seq.isExchange],
    by simp [ready, fresh, State.reset], by simp [ready, fresh, State.reset], by simp [ready, fresh, State.reset], by simp [ready, fresh, State.reset]⟩,
   ⟨by simp [ready, fresh, State.reset], by simp [ready, fresh, State.reset], by simp [ready, fresh, State.reset], by simp [ready, fresh, State.reset],
    by simp [ready, fresh, State.reset, Seq.isExchange], by simp [ready, fresh, State.reset], by simp [ready, fresh, State.reset],
    by simp [ready, fresh, State.reset], fun _ _ => (by decide : Mode.normal = restMode codeInit)⟩,
   ⟨(by decide : quick.InRange), (by decide : 0 < 2 ^ 32), by simp [ready, fresh, State.reset], by simp [ready, fresh, State.reset]⟩⟩

/-- A block whose CFG_READ stands in the later part of a transition to mode `m`, MODE already set. -/
def transit (q : Seq) (p : Phase) (m : Mode) : State :=
  { ready (still .low 1) with
    busy := true, cmdl := codeCfgRead, seq := q, phase := p, target := m, mode := m, msA := m.lineA, msB := m.lineB }

/-- Such a block meets the invariant at the sample, and at the end, of either transition. -/
theorem transit_inv :
    ∀ x ∈ [(Seq.enter, Phase.settle2, Mode.program), (.enter, .poll, .program), (.enter, .idle, .program), (.exit, .poll, .normal), (.exit, .idle, .normal)],
      (transit x.1 x.2.1 x.2.2).Inv := by
  have h1 : isSequenced codeCfgRead = true := by decide
  have h2 : isConfigCommand codeCfgRead = true := by decide
  have h3 : Mode.program = entryTarget codeCfgRead := by decide
  intro x hx
  simp only [List.mem_cons, List.not_mem_nil, or_false] at hx
  rcases hx with rfl | rfl | rfl | rfl | rfl <;>
    refine ⟨fun _ => ⟨rfl, rfl⟩, ⟨rfl, ?_, Nat.zero_le _, rfl⟩, ⟨?_, ?_, ?_, ?_, ?_, ?_, ?_, ?_⟩,
      ⟨?_, ?_, ?_, ?_, ?_, ?_, ?_, ?_, ?_⟩, ⟨(by decide : quick.InRange), (by decide : 0 < 2 ^ 32), ?_, ?_⟩⟩ <;>
    simp [transit, ready, fresh, State.reset, Phase.applied, Seq.isExchange, h1, h2, ← h3]

/-- A block with a SET_MODE Program in its first settle delay meets the invariant. -/
theorem flying_inv (env : List EnvAct) : (flying env).Inv :=
  ⟨fun _ => (by decide : Level.low = Mode.normal.lineA ∧ Level.low = Mode.normal.lineB),
   ⟨rfl, by simp [flying, ready, fresh, State.reset], Nat.zero_le _, rfl⟩,
   ⟨by simp [flying], fun _ => ⟨by simp [flying], (by decide : isSequenced (codeSetMode .program) = true)⟩, by simp [flying],
    by simp [flying, Seq.isExchange], by simp [flying], by simp [flying], by simp [flying], by simp [flying, ready, fresh, State.reset]⟩,
   ⟨fun _ _ => (by decide : Mode.program = entryTarget (codeSetMode .program)), by simp [flying],
    by simp [flying, Phase.applied], fun _ _ => rfl, by simp [flying, Seq.isExchange], by simp [flying], by simp [flying], by simp [flying], by simp [flying]⟩,
   ⟨(by decide : quick.InRange), (by decide : 1 < 2 ^ 32), by simp [flying], by simp [flying]⟩⟩

theorem witness_DecodeOfEncode :
    (Instr.setMode .program).wf = true ∧ (Instr.encode recordV41).wf = true ∧ (Instr.lineSend []).wf = true ∧
    (Instr.regblock recordV37).wf = true ∧ (Instr.wireWriteReq blockV37).wf = true := by decide
theorem witness_CommandCodes :
    decode (.command (CommandPort.ofCode 0x13)) = .ok (.setMode .program) ∧ decode (.command (CommandPort.ofCode 0x14)) = .error (.illegalCommand 0x14) ∧
    decode (.command (CommandPort.ofCode 0x0F)) = .error (.illegalCommand 0x0F) := by decide
/-- UnpackOfPackIsTheRecord, PackPlacesEveryField. -/
theorem witness_valid_records :
    recordV2.valid = true ∧ recordV37.valid = true ∧ recordV2 ≠ recordV37 ∧
    (Configuration.valid ⟨0xFFFF, 7, 3, 7, 3, true, 3, 0xFF, true, 1, true, 7, 0xFFFF⟩) = true ∧ recordV41.valid = false := by decide
/-- UnpackOfPackIsTheRecord, PackOfUnpackClearsTheReservedBits, CanonicalBlocksHaveTheReservedBitsClear. -/
theorem witness_canonical_blocks :
    blockV37.canonical = true ∧ (Block.canonical ⟨0xFF, 0xFF, 0xFF, 0xE3, 0xFF, 0xD7, 0xFF, 0xFF⟩) = true ∧
    (Block.canonical ⟨0, 0, 0, 0x04, 0, 0, 0, 0⟩) = false ∧ (Block.canonical ⟨0, 0, 0, 0, 0, 0x20, 0, 0⟩) = false := by decide
theorem witness_ReservedBits :
    Block.clearReserved { blockV2 with b3 := 0x1F, b5 := 0x28 } = Block.clearReserved blockV2 ∧ { blockV2 with b3 := 0x1F, b5 := 0x28 } ≠ blockV2 := by
  decide
/-- Each field at its last legal and at its first illegal index (R102). -/
theorem witness_Encode :
    (fresh []).busy = false ∧
    (Configuration.valid ⟨0, 7, 3, 7, 3, false, 3, 0, false, 1, false, 7, 0⟩) = true ∧
    ∀ c ∈ [{ Configuration.zero with baudRate := 8 }, { Configuration.zero with parity := 4 }, { Configuration.zero with airDataRate := 8 },
        { Configuration.zero with subPacketSize := 4 }, { Configuration.zero with transmitPower := 4 },
        { Configuration.zero with transmissionMethod := 2 }, { Configuration.zero with worCycle := 8 }], c.valid = false := by decide
theorem witness_Decode : (fresh []).busy = false ∧ (fresh []).inited = false := by decide
theorem witness_GetMode :
    (ready []).Accepts ∧ (flying []).busy = true ∧ (fresh []).busy = false ∧ (fresh []).inited = false :=
  ⟨ready_accepts [], rfl, rfl, rfl⟩
theorem witness_LineSend : ({ ready [] with mode := .program, msA := .high, msB := .high } : State).Accepts := ⟨rfl, rfl⟩
theorem witness_LineRecv :
    ({ ready [] with rxbuf := [0x6F, 0x0A, 0x0A] } : State).Accepts ∧ Config.newline ∉ ([0x6F] : List Byte) ∧
    ({ ready [] with rxbuf := [0x6F, 0x0A, 0x0A] } : State).rxbuf = [0x6F] ++ Config.newline :: [0x0A] ∧
    ({ ready [] with rxbuf := [0x0A] } : State).rxbuf = [] ++ Config.newline :: [] ∧ Config.newline ∉ (ready []).rxbuf ∧
    (flying []).busy = true ∧ (fresh []).inited = false :=
  ⟨⟨rfl, rfl⟩, by decide, by decide, by decide, by decide, rfl, rfl⟩
theorem witness_Refused : (flying []).busy = true ∧ (fresh []).busy = false ∧ (fresh []).inited = false := ⟨rfl, rfl, rfl⟩
theorem witness_UndefinedCode :
    ({ flying [] with host := [.present (CommandPort.ofCode 0x03) true] } : State).host = .present (CommandPort.ofCode 0x03) true :: [] ∧
    (CommandPort.ofCode 0x03).code ∉ [0x01#8, 0x02#8, 0x10#8, 0x11#8, 0x12#8, 0x13#8, 0x20#8, 0x21#8, 0x30#8, 0x31#8, 0x40#8, 0x41#8] := by decide
theorem witness_BusyBlock :
    ({ flying [] with host := [.present (CommandPort.ofCode 0x13) true] } : State).host = .present (CommandPort.ofCode 0x13) true :: [] ∧
    (flying []).busy = true ∧
    (CommandPort.ofCode 0x13).code ∈ [0x01#8, 0x02#8, 0x10#8, 0x11#8, 0x12#8, 0x13#8, 0x20#8, 0x21#8, 0x30#8, 0x31#8, 0x40#8, 0x41#8] := by decide
theorem witness_Step :
    ({ ready [] with host := [.present (CommandPort.ofCode 0x30) true] } : State).host = .present (CommandPort.ofCode 0x30) true :: [] ∧
    decode (.command (CommandPort.ofCode 0x30)) = .ok .cfgRead ∧ Instr.cfgRead.wf = true := by decide
/-- TheEnvironmentActsBeforeTheRow: an act that is listed, and a list that has run out. -/
theorem witness_Environment : (flying [⟨2, [0x41], .high⟩]).env = ⟨2, [0x41], .high⟩ :: [] ∧ (flying []).env = [] := ⟨rfl, rfl⟩
/-- AQuietStepIsExactlyItsRow: an idle block, a busy one with a row, and a busy one without. -/
theorem witness_QuietStep :
    (ready []).host = [] ∧ (ready []).busy = false ∧ ({ flying [] with host := idleHost } : State).host = .nothing :: [] ∧
    (flying []).busy = true ∧ (∃ t, step (flying []) = .next t) ∧
    State.row .low { flying (still .low 1) with seq := .idle } = none := ⟨rfl, rfl, rfl, rfl, ⟨_, rfl⟩, rfl⟩
/-- A state at every kind of row of `wordAt`. -/
theorem witness_StepOfAWord :
    ({ flying [] with phase := .apply } : State).wordAt = some (.modeSelect 3) ∧
    ({ flying [] with seq := .respond, phase := .idle } : State).wordAt = some (.status 0) ∧
    ({ flying [] with seq := .tx, phase := .idle, cmdl := codeCfgRead } : State).wordAt = some (.wire [0xC1, 0x00, 0x08]) ∧
    ({ flying [] with seq := .tx, phase := .idle, cmdl := codeCfgWrite, blkl := blockV2 } : State).wordAt = some (.wire (writeRequest blockV2)) ∧
    ({ flying [] with seq := .encode, phase := .idle, cmdl := codeCfgWrite, cfgl := recordV2 } : State).wordAt = some (.blockOut blockV2) ∧
    ({ flying [] with seq := .decode, phase := .idle, cmdl := codeCfgRead, blkl := blockV37 } : State).wordAt = some (.blockIn blockV37) ∧
    decode (.wire (writeRequest blockV2)) = .ok (.wireWriteReq blockV2) ∧ (flying []).host = [] ∧ (flying []).busy = true := by decide
theorem witness_TerminatorInText :
    ({ ready [] with host := [.present (sendPort [0x0A]) true] } : State).Accepts ∧ (sendPort [0x0A]).code = 0x40 ∧
    Config.newline ∈ (sendPort [0x0A]).text := ⟨⟨rfl, rfl⟩, by decide, by decide⟩
theorem witness_RegisterBlockRows : recordV37.valid = true ∧ recordV41.valid = false := by decide
theorem witness_StatusWords : ∃ (m : Option Mode) (u : State), m = (if (flying []).inited then some (flying []).mode else none) ∧
    u = (if (flying []).cmdl = 0x30 ∨ (flying []).cmdl = 0x31 then fresh [] else flying []) := ⟨_, _, rfl, rfl⟩
/-- Every clause of the phase table, at the boundary values of TMR and of the elapsed time (READY_TIMEOUT_MS is 1). -/
theorem witness_PhaseTable :
    (flying []).seq = .enter ∧ 0 < (flying []).tmr ∧ ({ flying [] with tmr := 0 } : State).tmr = 0 ∧
    ({ flying [] with phase := .poll, now := 1 } : State).par.readyTimeoutMs ≤ ({ flying [] with phase := .poll, now := 1 } : State).now - (flying []).t0 ∧
    ({ flying [] with phase := .poll } : State).now - (flying []).t0 < (flying []).par.readyTimeoutMs := by decide
/-- Every clause of the rows S_RX, at 11 and 10, 8 and 7, 1 and 0 bytes and at the deadline (FRAME_TIMEOUT_MS is 2). -/
theorem witness_ReadRows :
    ({ flying [] with seq := .rx, phase := .idle, cmdl := codeCfgRead } : State).cmdl = 0x30 ∧
    ({ flying [] with seq := .rx, phase := .idle, cmdl := codeCfgWrite } : State).cmdl = 0x31 ∧
    (List.replicate 11 (0 : Byte)).length = 11 ∧ (List.replicate 10 (0 : Byte)).length < 11 ∧ 0 < (List.replicate 1 (0 : Byte)).length ∧
    (List.replicate 8 (0 : Byte)).length = 8 ∧ (List.replicate 7 (0 : Byte)).length < 8 ∧
    quick.frameTimeoutMs ≤ 2 - 0 ∧ 1 - 0 < quick.frameTimeoutMs := by decide
/-- OnlyTheApplyRow…, RowsChangeTheReceiveBuffer…, EveryErrorLeaves…, AWarningNeverChangesThePath. A row of each kind exists: P_APPLY, P_DRAIN, the two reads, the two error rows, S_EXIT done and S_RESPOND. -/
theorem witness_Rows :
    (∃ t, State.row .low { flying [] with phase := .apply } = some t) ∧ (∃ t, State.row .low { flying [] with phase := .drain } = some t) ∧
    (∃ t, State.row .low { flying [] with seq := .rx, phase := .idle, cmdl := codeCfgRead, rxbuf := List.replicate 11 0 } = some t ∧ t.seq = .decode) ∧
    (∃ t, State.row .low { flying [] with seq := .rx, phase := .idle, cmdl := codeCfgWrite, rxbuf := List.replicate 8 0 } = some t ∧ t.seq = .exit) ∧
    (∃ t, State.row .low { flying [] with seq := .rx, phase := .idle, cmdl := codeCfgWrite, rxbuf := [0], now := 2 } = some t ∧ t.err = .shortRead) ∧
    (∃ t, State.row .low { flying [] with seq := .encode, phase := .idle, cmdl := codeCfgWrite, cfgl := recordV41 } = some t ∧ t.err ≠ .ok) ∧
    (∃ t, State.row .low { flying [] with seq := .exit, phase := .idle, cmdl := codeCfgWrite } = some t ∧ t.seq = .respond) ∧
    (∃ t, State.row .low { flying [] with seq := .respond, phase := .idle } = some t ∧ t.busy = false) ∧
    (flying []).err.isRefusal = false ∧ isConfigCommand codeCfgWrite = true :=
  ⟨⟨_, rfl⟩, ⟨_, rfl⟩, ⟨_, rfl, rfl⟩, ⟨_, rfl, rfl⟩, ⟨_, rfl, rfl⟩, ⟨_, rfl, by decide⟩, ⟨_, rfl, rfl⟩, ⟨_, rfl, rfl⟩, rfl, rfl⟩
/-- CommandTable: the rows' places, for each of the guards. -/
theorem witness_CommandTable :
    ({ flying [] with phase := .idle } : State).phase = .idle ∧ ({ flying [] with phase := .idle } : State).cmdl = codeSetMode .program ∧
    (∃ s : State, s.phase = .idle ∧ s.seq = .encode ∧ s.cmdl = 0x31 ∧ s.cfgl.valid = true) ∧
    (∃ s : State, s.phase = .idle ∧ s.seq = .encode ∧ s.cmdl = 0x31 ∧ s.cfgl.valid = false) ∧
    (∃ s : State, s.phase = .idle ∧ s.seq = .respond ∧ s.err.isRefusal = false ∧ s.cmdl = 0x30) :=
  ⟨rfl, rfl, ⟨{ flying [] with phase := .idle, seq := .encode, cmdl := 0x31, cfgl := recordV2 }, rfl, rfl, rfl, by decide⟩,
   ⟨{ flying [] with phase := .idle, seq := .encode, cmdl := 0x31, cfgl := recordV41 }, rfl, rfl, rfl, by decide⟩,
   ⟨{ flying [] with phase := .idle, seq := .respond, cmdl := 0x30 }, rfl, rfl, rfl, rfl⟩⟩
theorem witness_Init : (fresh []).Serialised ∧ (fresh []).busy = false := ⟨fresh_serialised [], rfl⟩
/-- SetModeReachesItsTarget, CfgReadEndsInNormalOnEveryPath, CfgWriteEndsInNormalOnEveryPath. -/
theorem witness_WholeCommands : (ready []).Serialised ∧ (ready []).Accepts ∧ recordV2.valid = true ∧ recordV41.valid = false :=
  ⟨ready_serialised [], ready_accepts [], by decide, by decide⟩
/-- AcceptanceStartsTheFirstTransition: INIT as the first command after reset, and the other three of an initialised block. -/
theorem witness_Acceptance :
    ({ fresh [] with hostWaits := false } : State).hostWaits = false ∧ ({ fresh [] with hostWaits := false } : State).busy = false ∧
    ({ fresh [] with hostWaits := false } : State).inited = false ∧
    ({ ready [] with hostWaits := false } : State).hostWaits = false ∧ ({ ready [] with hostWaits := false } : State).Accepts :=
  ⟨rfl, rfl, rfl, rfl, ⟨rfl, rfl⟩⟩
/-- ACommandKeepsExactlyTheBytesAfterItsDrain, with witness_WholeCommands and witness_NextStates: the INIT of an uninitialised block. -/
theorem witness_Kept : (fresh []).Serialised ∧ (fresh []).busy = false ∧ ∃ t, exec .init (fresh []) = .next t :=
  ⟨fresh_serialised [], rfl, _, rfl⟩
theorem witness_CfgReadBytes :
    (blockV37.bytes ++ [0, 0, 0]).length = 11 ∧
    (ready (still .low 9 ++ ⟨0, blockV37.bytes ++ [0, 0, 0], .low⟩ :: (still .low 10 ++ []))).env =
      List.replicate (2 * quick.settleMs + 7) ⟨0, [], .low⟩ ++
        ⟨0, blockV37.bytes ++ [0, 0, 0], .low⟩ :: (List.replicate 10 ⟨0, [], .low⟩ ++ []) ∧ 2 * quick.settleMs + 8 ≤ 10 := by decide
/-- A CFG_READ that answers a record, and the CFG_WRITE of that record after it. -/
theorem witness_WriteBack :
    ∃ t u : State, exec .cfgRead (ready (still .low 9 ++
        ⟨0, [0x00, 0x00, 0x00, 0x12, 0x34, 0xE7, 0xC2, 0x41, 0xD5, 0xAB, 0xCD], .low⟩ :: still .low 10)) = .next t ∧
      t.rsp.cfg = some recordV37 ∧ exec (.cfgWrite recordV37) t = .next u :=
  ⟨_, _, rfl, by decide +kernel, rfl⟩
/-- TheSettleDelaysAreLowerBounds, with witness_WholeCommands and, for the INIT of an uninitialised block, witness_Kept. -/
theorem witness_NextStates :
    ∃ t u v w : State, exec (.setMode .wakeUp) (ready []) = .next t ∧ exec .init (ready []) = .next u ∧ exec .cfgRead (ready []) = .next v ∧
      exec (.cfgWrite recordV2) (ready []) = .next w := ⟨_, _, _, _, rfl, rfl, rfl, rfl⟩
/-- AReadyTransitionLastsTwoSettleDelays, AStuckReadyLineTimesOut. -/
theorem witness_IdealTiming :
    (ready (still .low 9)).Ideal .low (2 * quick.settleMs + 7) ∧
    (ready (still .high 12)).Ideal .high (2 * quick.settleMs + 7 + 1 * (quick.pollMs + 2)) ∧
    1 = (quick.readyTimeoutMs + quick.pollMs - 1) / quick.pollMs :=
  ⟨⟨by decide, fun e he => by rw [List.eq_of_mem_replicate he]; exact ⟨rfl, rfl⟩⟩,
   ⟨by decide, fun e he => by rw [List.eq_of_mem_replicate he]; exact ⟨rfl, rfl⟩⟩, by decide⟩
/-- EveryStepKeepsTheInvariant, NoStepFaults, AnIdleBlockStandsAtIdle, ModeFollowsTheTransitions. Steps from states that meet the invariant (with transit_inv): an idle block, a command in flight, a block past step 2, the end of either transition, the exchange and the response. -/
theorem witness_InvariantSteps :
    (ready []).Inv ∧ (∃ t, step (ready []) = .next t) ∧ (flying (still .low 1)).Inv ∧ (∃ t, step (flying (still .low 1)) = .next t ∧ t.phase ≠ .idle) ∧
    (∃ t, step (ready []) = .next t ∧ t.busy = false ∧ t.inited = true ∧ t.cmdl = 0x01) ∧
    (∃ t, step (transit .enter .settle2 .program) = .next t ∧ t.phase = .drain) ∧
    (∃ t, step (transit .enter .poll .program) = .next t ∧ t.seq = .enter ∧ t.phase = .idle) ∧
    (∃ t, step (transit .enter .idle .program) = .next t ∧ t.seq = .tx) ∧
    (∃ t, step (transit .exit .poll .normal) = .next t ∧ t.seq = .exit ∧ t.phase = .idle) ∧
    (∃ t, step (transit .exit .idle .normal) = .next t ∧ t.seq = .respond) :=
  ⟨ready_inv [], ⟨_, rfl⟩, flying_inv _, ⟨_, rfl, by decide⟩, ⟨_, rfl, rfl, rfl, rfl⟩, ⟨_, rfl, rfl⟩, ⟨_, rfl, rfl, rfl⟩, ⟨_, rfl, rfl⟩,
   ⟨_, rfl, rfl, rfl⟩, ⟨_, rfl, rfl⟩⟩
/-- TheTransmitLogOnlyGrows, InitedIsClearedByResetOnly. -/
theorem witness_TransmitLog :
    (∀ rest, (ready []).host ≠ .reset :: rest) ∧ (∃ t, step (ready []) = .next t) ∧ (ready []).busy = false ∧ (flying []).seq ≠ .tx ∧
    (ready []).host = [] ∧ (ready []).inited = true := ⟨fun _ h => by simp [ready, fresh, State.reset] at h, ⟨_, rfl⟩, rfl, by decide, rfl, rfl⟩
/-- EveryCommandInFlightIsAnswered, RowByRowComesToTheSameResponse. -/
theorem witness_InFlight : (flying []).Inv ∧ (flying []).busy = true ∧ (flying []).host = [] ∧ (flying []).rspValid = false :=
  ⟨flying_inv [], rfl, rfl, rfl⟩
theorem witness_Reset : ({ flying [] with host := .reset :: idleHost } : State).host = .reset :: idleHost := rfl
theorem witness_UnspecifiedResetValues :
    (fresh []).busy = false ∧ (fresh []).inited = false ∧ (fresh []).Serialised ∧
    (∃ t u, exec .init (fresh []) = .next t ∧ exec .init { fresh [] with mode := .program, tmr := 9 } = .next u) :=
  ⟨rfl, rfl, fresh_serialised [], ⟨_, _, rfl, rfl⟩⟩
/-- WhatIsDeadReachesNothing: an idle initialised block whose latches differ, before a step and before a command, and an uninitialised one. -/
theorem witness_Dead :
    (ready []).busy = false ∧ (ready []).seq = .idle ∧ (ready []).phase = .idle ∧ (ready []).rspValid = false ∧
    ({ ready [] with cfgl := recordV2, blkl := blockV2, ft0 := 9, target := .program } : State).live = (ready []).live ∧
    (∃ t, step (ready []) = .next t) ∧ (∃ t, exec .cfgRead (ready []) = .next t) ∧ (fresh []).inited = false :=
  ⟨rfl, rfl, rfl, rfl, rfl, ⟨_, rfl⟩, ⟨_, rfl⟩, rfl⟩

end Sys2Proof.Tests
end

section
/-! SUPPORT. The environment's act before a step, listed or free, and what it leaves of the block (R7, R23, R50, R57). -/

namespace Sys2Proof.Machine.State

theorem draw_of_listed {s : State} {e : EnvAct} {rest : List EnvAct} (h : s.env = e :: rest) : s.draw = e := by
  simp [draw, h]

theorem draw_of_none_listed {s : State} (h : s.env = []) : s.draw = Config.freeEnv s.draws := by
  simp [draw, h]

/-- The exact frame of the environment's act, in terms of the act and of the acts that stay listed. -/
theorem envStep_eq {s : State} {e : EnvAct} {rest : List EnvAct} (hd : s.draw = e) (hr : s.env.tail = rest) :
    s.envStep = { s with
      now := s.now + e.dt, tmr := s.tmr - e.dt, rxbuf := s.rxbuf ++ e.arrive, env := rest, draws := s.draws + 1 } := by
  subst hd hr
  rfl

/-- Settles O55: whichever act is drawn, `envStep_eq` is its frame; the row is performed in the state after it by definition. -/
theorem theEnvironmentActsBeforeTheRow : Obligations.TheEnvironmentActsBeforeTheRow := by
  refine ⟨fun e rest s h => ?_, fun s h => ?_, fun s => rfl⟩
  · have hd : s.draw = e := draw_of_listed h
    exact ⟨hd, envStep_eq hd (by rw [h, List.tail_cons])⟩
  · have hd : s.draw = Config.freeEnv s.draws := draw_of_none_listed h
    exact ⟨hd, envStep_eq hd (by rw [h, List.tail_nil])⟩

end Sys2Proof.Machine.State
end

section
/-! SUPPORT. What a row of the tables R127 and R153 makes of a command in flight, as one relation, and the three parts of the invariant
that do not speak of MODE (ERR, the sequencer's place, the clocks) kept by every row and by the environment's act. -/

namespace Sys2Proof.Machine.State

/-! ### What a row of a transition leaves unchanged -/

/-- A row of the phase table writes PHASE, MODE, the pins, INITED, WARN, TMR, T0, RXBUF and NOW, and nothing else (R127). -/
theorem transitionRow_frame (aux : Level) (s : State) :
    s.transitionRow aux = { s with
      phase := (s.transitionRow aux).phase, mode := (s.transitionRow aux).mode, msA := (s.transitionRow aux).msA,
      msB := (s.transitionRow aux).msB, inited := (s.transitionRow aux).inited, warn := (s.transitionRow aux).warn,
      tmr := (s.transitionRow aux).tmr, t0 := (s.transitionRow aux).t0, rxbuf := (s.transitionRow aux).rxbuf,
      now := (s.transitionRow aux).now } := by
  by_cases hp : s.phase = .idle
  · have e : s.transitionRow aux = s := by simp [transitionRow, hp]
    rw [e]
  · rcases transitionRow_cases aux s hp with
      ⟨_, _, e⟩ | ⟨_, _, e⟩ | ⟨_, e⟩ | ⟨_, _, e⟩ | ⟨_, _, e⟩ | ⟨_, e⟩ | ⟨_, _, e⟩ | ⟨_, _, _, e⟩ | ⟨_, _, _, e⟩ | ⟨_, _, e⟩ |
      ⟨_, _, e⟩ <;> rw [e] <;> rfl

@[simp] theorem transitionRow_seq (aux : Level) (s : State) : (s.transitionRow aux).seq = s.seq :=
  (congrArg State.seq (transitionRow_frame aux s) :)
@[simp] theorem transitionRow_busy (aux : Level) (s : State) : (s.transitionRow aux).busy = s.busy :=
  (congrArg State.busy (transitionRow_frame aux s) :)
@[simp] theorem transitionRow_err (aux : Level) (s : State) : (s.transitionRow aux).err = s.err :=
  (congrArg State.err (transitionRow_frame aux s) :)
@[simp] theorem transitionRow_errBytes (aux : Level) (s : State) : (s.transitionRow aux).errBytes = s.errBytes :=
  (congrArg State.errBytes (transitionRow_frame aux s) :)
@[simp] theorem transitionRow_errCnt (aux : Level) (s : State) : (s.transitionRow aux).errCnt = s.errCnt :=
  (congrArg State.errCnt (transitionRow_frame aux s) :)
@[simp] theorem transitionRow_cmdl (aux : Level) (s : State) : (s.transitionRow aux).cmdl = s.cmdl :=
  (congrArg State.cmdl (transitionRow_frame aux s) :)
@[simp] theorem transitionRow_par (aux : Level) (s : State) : (s.transitionRow aux).par = s.par :=
  (congrArg State.par (transitionRow_frame aux s) :)

/-! ### What a row can do -/

theorem isConfigCommand_iff (c : Byte) : isConfigCommand c = true ↔ c = codeCfgRead ∨ c = codeCfgWrite := by
  simp [isConfigCommand]

@[simp] theorem isConfigCommand_codeCfgRead : isConfigCommand codeCfgRead = true := by decide
@[simp] theorem isConfigCommand_codeCfgWrite : isConfigCommand codeCfgWrite = true := by decide
@[simp] theorem codeCfgWrite_ne_codeCfgRead : codeCfgWrite ≠ codeCfgRead := by decide

theorem isSequenced_iff (c : Byte) : isSequenced c = true ↔ isTransitionOnly c = true ∨ isConfigCommand c = true := by
  simp [isSequenced]

/-- Everything a row can make of a state, with its guards; the encode row (R151) and the two read rows (R48) are split into their
outcomes. -/
inductive RowTo (s : State) : State → Prop where
  | transition (aux : Level) (hq : s.seq = .enter ∨ s.seq = .exit) (hp : s.phase ≠ .idle) : RowTo s (s.transitionRow aux)
  | enterRead (hq : s.seq = .enter) (hp : s.phase = .idle) (hc : s.cmdl = codeCfgRead) : RowTo s { s with seq := .tx }
  | enterWrite (hq : s.seq = .enter) (hp : s.phase = .idle) (hc : s.cmdl = codeCfgWrite) : RowTo s { s with seq := .encode }
  | enterDone (hq : s.seq = .enter) (hp : s.phase = .idle) (hc : isTransitionOnly s.cmdl = true) :
      RowTo s { s with seq := .respond }
  | encode (hq : s.seq = .encode) (hp : s.phase = .idle) (hc : s.cmdl = codeCfgWrite) (hv : s.cfgl.valid = true) :
      RowTo s { s with blkl := pack s.cfgl, seq := .tx }
  | invalid (hq : s.seq = .encode) (hp : s.phase = .idle) (hc : s.cmdl = codeCfgWrite) (hv : s.cfgl.valid = false) :
      RowTo s (s.raiseError .invalidEnumValue [])
  | send (frame : List Byte) (hq : s.seq = .tx) (hp : s.phase = .idle)
      (hc : s.cmdl = codeCfgRead ∧ frame = readRequest ∨ s.cmdl = codeCfgWrite ∧ frame = writeRequest s.blkl) :
      RowTo s (s.sendFrame frame)
  | wait (hq : s.seq = .rx) (hp : s.phase = .idle) (ht : s.now - s.ft0 < s.par.frameTimeoutMs) : RowTo s (s.pass 1)
  | receive (hq : s.seq = .rx) (hp : s.phase = .idle) (hc : s.cmdl = codeCfgRead) (hlen : 11 ≤ s.rxbuf.length) :
      RowTo s { s with rxbuf := s.rxbuf.drop 11, blkl := responseBlock (s.rxbuf.take 11), seq := .decode }
  | acknowledge (hq : s.seq = .rx) (hp : s.phase = .idle) (hc : s.cmdl = codeCfgWrite) (hlen : 8 ≤ s.rxbuf.length) :
      RowTo s { s with rxbuf := s.rxbuf.drop 8 }.leave
  | short (hq : s.seq = .rx) (hp : s.phase = .idle) (ht : s.par.frameTimeoutMs ≤ s.now - s.ft0) (hne : s.rxbuf ≠ [])
      (hlen : s.rxbuf.length < 11) : RowTo s (s.uartDrain.raiseError .shortRead s.rxbuf)
  | timeout (hq : s.seq = .rx) (hp : s.phase = .idle) (ht : s.par.frameTimeoutMs ≤ s.now - s.ft0) (hr : s.rxbuf = []) :
      RowTo s (s.uartDrain.raiseError .transportTimeout [])
  | decode (hq : s.seq = .decode) (hp : s.phase = .idle) (hc : s.cmdl = codeCfgRead) : RowTo s (s.decodeBlock s.blkl)
  | exitDone (hq : s.seq = .exit) (hp : s.phase = .idle) (hc : isConfigCommand s.cmdl = true) :
      RowTo s { s with seq := .respond }
  | respond (hq : s.seq = .respond) (hp : s.phase = .idle) : RowTo s (s.present s.err)

theorem rowTo_of_row {aux : Level} {s t : State} (h : s.row aux = some t) : s.RowTo t := by
  rcases row_cases h with ⟨hq, hp, rfl⟩ | ⟨hp, hrow⟩
  · exact .transition aux hq hp
  · rcases hrow with ⟨q, c, rfl⟩ | ⟨q, c, rfl⟩ | ⟨q, c, rfl⟩ | ⟨q, c, rfl⟩ | ⟨q, c, rfl⟩ | ⟨q, c, rfl⟩ | ⟨q, c, rfl⟩ |
      ⟨q, c, rfl⟩ | ⟨q, c, rfl⟩ | ⟨q, c, rfl⟩ | ⟨q, rfl⟩
    · exact .enterRead q hp c
    · exact .enterWrite q hp c
    · exact .enterDone q hp c
    · rcases encodeRecord_cases s.cfgl s with ⟨hv, e⟩ | ⟨hv, e⟩ <;> rw [e]
      · exact .encode q hp c hv
      · exact .invalid q hp c hv
    · exact .send _ q hp (.inl ⟨c, rfl⟩)
    · exact .send _ q hp (.inr ⟨c, rfl⟩)
    · rcases readResponseRow_cases s with ⟨hlen, e⟩ | ⟨hlen, ht, hne, e⟩ | ⟨ht, hr, e⟩ | ⟨_, ht, e⟩ <;> rw [e]
      · exact .receive q hp c hlen
      · exact .short q hp ht hne hlen
      · exact .timeout q hp ht hr
      · exact .wait q hp ht
    · rcases readAckRow_cases s with ⟨hlen, e⟩ | ⟨hlen, ht, hne, e⟩ | ⟨ht, hr, e⟩ | ⟨_, ht, e⟩ <;> rw [e]
      · exact .acknowledge q hp c hlen
      · exact .short q hp ht hne (by omega)
      · exact .timeout q hp ht hr
      · exact .wait q hp ht
    · exact .decode q hp c
    · exact .exitDone q hp c
    · exact .respond q hp

theorem RowTo.seq_ne_idle {s t : State} (r : s.RowTo t) : s.seq ≠ .idle := by
  intro h
  cases r <;> simp_all

/-- Where the sequencer stands legally, a command is in flight exactly off S_IDLE (R12, R28). -/
theorem SequencerLegal.busy_of_seq_ne_idle {s : State} (h : s.SequencerLegal) (hq : s.seq ≠ .idle) : s.busy = true := by
  by_contra hb
  exact hq (h.idle (by simpa using hb)).1

/-- A legally standing command in flight has a row, whatever AUX reads (R127, R153). -/
theorem SequencerLegal.exists_row (aux : Level) {s : State} (h : s.SequencerLegal) (hb : s.busy = true) :
    ∃ t, s.row aux = some t := by
  obtain ⟨-, hflight, hinner, hexchange, hexit, hencode, hdecode, -⟩ := h
  obtain ⟨hq, hc⟩ := hflight hb
  by_cases hp : s.phase = .idle
  · cases hs : s.seq
    case idle => exact absurd hs hq
    case enter =>
      by_cases hr : s.cmdl = codeCfgRead
      · simp [row, hs, hp, hr]
      · by_cases hw : s.cmdl = codeCfgWrite
        · simp [row, hs, hp, hw]
        · have ht : isTransitionOnly s.cmdl = true := by simpa [isSequenced_iff, isConfigCommand_iff, hr, hw] using hc
          simp [row, hs, hp, hr, hw, ht]
    case encode => simp [row, hs, hp, hencode hs]
    case tx => rcases (isConfigCommand_iff _).1 (hexchange (by simp [hs, Seq.isExchange])) with c | c <;> simp [row, hs, hp, c]
    case rx => rcases (isConfigCommand_iff _).1 (hexchange (by simp [hs, Seq.isExchange])) with c | c <;> simp [row, hs, hp, c]
    case decode => simp [row, hs, hp, hdecode hs]
    case exit => simp [row, hs, hp, hexit hs]
    case respond => simp [row, hs, hp]
  · rcases hinner hp with hs | hs <;> simp [row, hs, hp]

/-! ### ERR and its bytes -/

theorem ErrorsMatch.congr {s t : State} (h : s.ErrorsMatch) (he : t.err = s.err) (hb : t.errBytes = s.errBytes)
    (hc : t.errCnt = s.errCnt) : t.ErrorsMatch :=
  ⟨by rw [he]; exact h.noRefusal, by rw [he, hb]; exact h.bytes, by rw [hb]; exact h.bound, by rw [hc, hb]; exact h.count⟩

/-- Taking an error latches it well where its bytes are those of a ShortRead or none (R181, R186). -/
theorem raiseError_errorsMatch (s : State) {e : Status} {bytes : List Byte} (hr : e.isRefusal = false)
    (hb : e = .shortRead ↔ bytes ≠ []) (hl : bytes.length ≤ 10) : (s.raiseError e bytes).ErrorsMatch :=
  ⟨hr, hb, hl, rfl⟩

theorem ErrorsMatch.present_eq_respond {s : State} (h : s.ErrorsMatch) : s.present s.err = s.respond s.err := by
  simp [present, h.noRefusal]

theorem RowTo.errorsMatch {s t : State} (r : s.RowTo t) (h : s.ErrorsMatch) : t.ErrorsMatch := by
  cases r
  case invalid => exact raiseError_errorsMatch s rfl (by simp) (by simp)
  case short hne hlen => exact raiseError_errorsMatch _ rfl (by simp [hne]) (by omega)
  case timeout => exact raiseError_errorsMatch _ rfl (by simp) (by simp)
  case respond =>
    rw [h.present_eq_respond]
    exact h.congr (by simp) (by simp) (by simp)
  all_goals exact h.congr (by simp) (by simp) (by simp)

/-! ### The sequencer's place -/

theorem RowTo.sequencerLegal {s t : State} (r : s.RowTo t) (he : s.ErrorsMatch) (h : s.SequencerLegal) : t.SequencerLegal := by
  have hb : s.busy = true := h.busy_of_seq_ne_idle r.seq_ne_idle
  obtain ⟨-, hflight, hinner, hexchange, hexit, hencode, hdecode, hfirst⟩ := h
  obtain ⟨-, hc⟩ := hflight hb
  cases r
  case transition =>
    exact ⟨by simp [hb], by simpa [hb] using hflight, by simp [*], by simpa, by simpa, by simpa, by simpa, by simpa⟩
  case respond =>
    rw [he.present_eq_respond]
    constructor <;> simp_all [Seq.isExchange]
  -- every other row puts SEQ at a fixed place, so that each clause speaks of constants
  all_goals constructor <;> simp_all [Seq.isExchange]

/-! ### The clocks -/

theorem transitionRow_clocksLegal (aux : Level) {s : State} (hq : s.seq ≠ .rx) (hp : s.phase ≠ .idle) (h : s.ClocksLegal) :
    (s.transitionRow aux).ClocksLegal := by
  obtain ⟨hpar, htmr, hready, -⟩ := h
  have ⟨_, hsettle, hpoll, _⟩ := hpar
  refine ⟨by simpa using hpar, ?_, ?_, fun hrx => absurd (by simpa using hrx) hq⟩
  all_goals
    rcases transitionRow_cases aux s hp with
      ⟨_, _, e⟩ | ⟨_, _, e⟩ | ⟨_, e⟩ | ⟨_, _, e⟩ | ⟨_, _, e⟩ | ⟨_, e⟩ | ⟨_, _, e⟩ | ⟨_, _, _, e⟩ | ⟨_, _, _, e⟩ | ⟨_, _, e⟩ |
      ⟨_, _, e⟩ <;> rw [e] <;> simp_all <;> omega

theorem RowTo.clocksLegal {s t : State} (r : s.RowTo t) (he : s.ErrorsMatch) (h : s.ClocksLegal) : t.ClocksLegal := by
  have hsettle : s.par.settleMs < 2 ^ 32 := h.params.2.1
  cases r
  case transition hq hp => exact transitionRow_clocksLegal _ (by rcases hq with q | q <;> simp [q]) hp h
  all_goals obtain ⟨hpar, htmr, hready, hframe⟩ := h
  case wait hp _ => exact ⟨hpar, by simp; omega, by simp [hp], fun hrx => (hframe hrx).trans (by simp)⟩
  case respond =>
    rw [he.present_eq_respond]
    exact ⟨by simpa using hpar, by simpa using htmr, by simpa using hready, by simp⟩
  all_goals exact ⟨by simpa using hpar, by simpa, by simp [*], by simp⟩

/-- What the bound on the steps needs is part of the invariant. -/
theorem ClocksLegal.timed {s : State} (h : s.ClocksLegal) : s.Timed := ⟨h.params.1, h.ready, h.frame⟩

/-! ### The environment's act -/

theorem envStep_errorsMatch {s : State} (h : s.ErrorsMatch) : s.envStep.ErrorsMatch := h.congr rfl rfl rfl

theorem envStep_sequencerLegal {s : State} (h : s.SequencerLegal) : s.envStep.SequencerLegal :=
  ⟨h.idle, h.inFlight, h.inner, h.exchange, h.exit, h.encode, h.decode, h.firstErr⟩

theorem envStep_clocksLegal {s : State} (h : s.ClocksLegal) : s.envStep.ClocksLegal :=
  have ht : s.envStep.Timed := envStep_timed h.timed
  ⟨h.params, Nat.lt_of_le_of_lt (Nat.sub_le _ _) h.timer, ht.ready, ht.frame⟩

end Sys2Proof.Machine.State
end

section
/-! SUPPORT. A command in flight is answered: the bound on its steps falls with every step, a row is enabled until the response, and
the row that ends BUSY is the one that drives it. -/

namespace Sys2Proof.Machine.State

/-- What every state of a run to the response satisfies: the parts of the invariant by which a row is enabled and the bound falls, and
a response that is no refusal once BUSY is 0. -/
structure InRun (s : State) : Prop where
  errors    : s.ErrorsMatch
  sequencer : s.SequencerLegal
  clocks    : s.ClocksLegal
  answered  : s.busy = false → s.rspValid = true ∧ s.rsp.status.isRefusal = false

theorem inRun_of_inv {s : State} (h : s.Inv) (hb : s.busy = true) : s.InRun :=
  ⟨h.errors, h.sequencer, h.clocks, fun hb' => absurd (hb.symm.trans hb') (by decide)⟩

/-- The only row that ends BUSY is S_RESPOND, and it drives ERR, which is no refusal (R153, R187). -/
theorem RowTo.answered {s t : State} (r : s.RowTo t) (he : s.ErrorsMatch) (hb : s.busy = true) (ht : t.busy = false) :
    t.rspValid = true ∧ t.rsp.status.isRefusal = false := by
  cases r
  case respond =>
    rw [he.present_eq_respond]
    exact ⟨by simp, by simpa [response, Response.bare] using he.noRefusal⟩
  all_goals simp [hb] at ht

theorem InRun.advance {s t : State} (h : s.InRun) (ha : s.advance = some t) : t.InRun :=
  have r : s.envStep.RowTo t := rowTo_of_row ha
  have he : s.envStep.ErrorsMatch := envStep_errorsMatch h.errors
  have hs : s.envStep.SequencerLegal := envStep_sequencerLegal h.sequencer
  ⟨r.errorsMatch he, r.sequencerLegal he hs, r.clocksLegal he (envStep_clocksLegal h.clocks),
    r.answered he (hs.busy_of_seq_ne_idle r.seq_ne_idle)⟩

theorem InRun.exists_advance {s : State} (h : s.InRun) (hb : s.busy = true) : ∃ t, s.advance = some t :=
  (envStep_sequencerLegal h.sequencer).exists_row s.draw.aux hb

/-- As many steps as the bound says are enough to come to the response. -/
theorem InRun.runSteps_not_busy {n : Nat} {s : State} (h : s.InRun) (hw : s.work ≤ n) : (s.runSteps n).busy = false := by
  induction n generalizing s with
  | zero =>
    by_contra hb
    obtain ⟨t, ha⟩ := h.exists_advance (by simpa using hb)
    have hlt : t.work < s.work := advance_work_lt h.clocks.timed h.errors.noRefusal ha
    omega
  | succ n ih =>
    cases hb : s.busy
    · rwa [runSteps_idle _ hb]
    · obtain ⟨t, ha⟩ := h.exists_advance hb
      have hlt : t.work < s.work := advance_work_lt h.clocks.timed h.errors.noRefusal ha
      rw [runSteps_succ n hb ha]
      exact ih (h.advance ha) (by omega)

/-- Settles O49: the run is over by its bound (`InRun.runSteps_not_busy`), and `InRun` holds at its end. -/
theorem everyCommandInFlightIsAnswered : Obligations.EveryCommandInFlightIsAnswered := by
  intro s hinv hb
  have hrun : s.InRun := inRun_of_inv hinv hb
  have hend : (s.runSteps s.work).InRun := runSteps_induct (fun _ _ h _ ha => h.advance ha) s.work s hrun
  have hdone : (s.runSteps s.work).busy = false := hrun.runSteps_not_busy le_rfl
  exact ⟨hdone, hend.answered hdone⟩

end Sys2Proof.Machine.State
end

section
/-! SUPPORT. What a command of the host and a step of the machine can do, each as one relation, and the frame of a row: MODE, INITED,
the pins, RXBUF, TXLOG and the host's elements. -/

namespace Sys2Proof.Machine.State

/-! ### What a row leaves unchanged -/

@[simp] theorem transitionRow_target (aux : Level) (s : State) : (s.transitionRow aux).target = s.target :=
  (congrArg State.target (transitionRow_frame aux s) :)
@[simp] theorem transitionRow_txlog (aux : Level) (s : State) : (s.transitionRow aux).txlog = s.txlog :=
  (congrArg State.txlog (transitionRow_frame aux s) :)
@[simp] theorem transitionRow_rspValid (aux : Level) (s : State) : (s.transitionRow aux).rspValid = s.rspValid :=
  (congrArg State.rspValid (transitionRow_frame aux s) :)
@[simp] theorem transitionRow_host (aux : Level) (s : State) : (s.transitionRow aux).host = s.host :=
  (congrArg State.host (transitionRow_frame aux s) :)

/-- `t` shows the same mode as `s`, inside the block and on the pins (R13, R14, R19). -/
structure SameMode (s t : State) : Prop where
  mode   : t.mode = s.mode
  msA    : t.msA = s.msA
  msB    : t.msB = s.msB
  inited : t.inited = s.inited

/-- `t` shows the target of a transition of `s`, inside the block and on the pins (R122). -/
structure ShowsTarget (s t : State) : Prop where
  mode   : t.mode = s.target
  msA    : t.msA = s.target.lineA
  msB    : t.msB = s.target.lineB
  inited : t.inited = true

/-- A row of a transition shows TARGET at P_APPLY and changes no mode elsewhere; no other row passes step 2 (R122, R127). -/
theorem transitionRow_mode (aux : Level) (s : State) :
    (s.phase = .apply ∧ s.ShowsTarget (s.transitionRow aux)) ∨
    (s.SameMode (s.transitionRow aux) ∧ ((s.transitionRow aux).phase.applied = true → s.phase.applied = true)) := by
  by_cases hp : s.phase = .idle
  · have e : s.transitionRow aux = s := by simp [transitionRow, hp]
    rw [e]
    exact .inr ⟨⟨rfl, rfl, rfl, rfl⟩, id⟩
  · rcases transitionRow_cases aux s hp with
      ⟨q, _, e⟩ | ⟨q, _, e⟩ | ⟨q, e⟩ | ⟨q, _, e⟩ | ⟨q, _, e⟩ | ⟨q, e⟩ | ⟨q, _, e⟩ | ⟨q, _, _, e⟩ | ⟨q, _, _, e⟩ | ⟨q, _, e⟩ |
      ⟨q, _, e⟩ <;> rw [e]
    case inr.inr.inl => exact .inl ⟨q, rfl, rfl, rfl, rfl⟩
    all_goals exact .inr ⟨⟨rfl, rfl, rfl, rfl⟩, by simp [q, Phase.applied]⟩

/-- Every row of a transition but the drain leaves RXBUF as it is (R124, R127). -/
theorem transitionRow_rxbuf (aux : Level) (s : State) :
    (s.transitionRow aux).rxbuf = s.rxbuf ∨ (s.phase = .drain ∧ (s.transitionRow aux).rxbuf = []) := by
  by_cases hp : s.phase = .idle
  · simp [transitionRow, hp]
  · rcases transitionRow_cases aux s hp with
      ⟨_, _, e⟩ | ⟨_, _, e⟩ | ⟨_, e⟩ | ⟨_, _, e⟩ | ⟨_, _, e⟩ | ⟨q, e⟩ | ⟨_, _, e⟩ | ⟨_, _, _, e⟩ | ⟨_, _, _, e⟩ | ⟨_, _, e⟩ |
      ⟨_, _, e⟩ <;> rw [e]
    case inr.inr.inr.inr.inr.inl => exact .inr ⟨q, rfl⟩
    all_goals exact .inl rfl

/-- Presenting a status shows the same mode. -/
theorem present_sameMode (st : Status) (s : State) : s.SameMode (s.present st) := by
  rcases present_cases st s with ⟨_, e⟩ | ⟨_, e⟩ <;> rw [e] <;> exact ⟨rfl, rfl, rfl, rfl⟩

@[simp] theorem present_rxbuf (st : Status) (s : State) : (s.present st).rxbuf = s.rxbuf := by
  rcases present_cases st s with ⟨_, e⟩ | ⟨_, e⟩ <;> rw [e] <;> rfl
@[simp] theorem present_txlog (st : Status) (s : State) : (s.present st).txlog = s.txlog := by
  rcases present_cases st s with ⟨_, e⟩ | ⟨_, e⟩ <;> rw [e] <;> rfl

/-- A row shows TARGET where it is P_APPLY, and no row else changes MODE, INITED or a pin (R13, R14, R122). -/
theorem RowTo.mode {s t : State} (r : s.RowTo t) : s.SameMode t ∨ (s.phase = .apply ∧ s.ShowsTarget t) := by
  cases r
  case transition aux _ _ => exact (transitionRow_mode aux s).symm.imp_left And.left
  case respond => exact .inl (present_sameMode s.err s)
  all_goals exact .inl ⟨rfl, rfl, rfl, rfl⟩

/-- No row takes INITED away (R19). -/
theorem RowTo.inited {s t : State} (r : s.RowTo t) (h : s.inited = true) : t.inited = true := by
  rcases r.mode with hsame | ⟨_, hshows⟩
  · rw [hsame.inited, h]
  · exact hshows.inited

/-- A row only appends to TXLOG (R25, R47). -/
theorem RowTo.txlog {s t : State} (r : s.RowTo t) : s.txlog <+: t.txlog := by
  cases r <;> simp

/-- No row but S_TX writes to TXLOG (R47, R153). -/
theorem RowTo.txlog_of_seq_ne_tx {s t : State} (r : s.RowTo t) (hq : s.seq ≠ .tx) : t.txlog = s.txlog := by
  cases r
  case send h _ _ => exact absurd h hq
  all_goals simp

/-! ### What a command can do -/

/-- The nine commands of the host (R83); the other constructors are words of the block's own (log entry 14). -/
def isHostCommand : Instr → Bool
  | .init | .getMode | .setMode _ | .encode _ | .decode _ | .cfgRead | .cfgWrite _ | .lineSend _ | .lineRecv => true
  | _ => false

/-- What the decoder reads at the command port is one of the nine. -/
theorem isHostCommand_of_decode {p : CommandPort} {i : Instr} (h : Sys2Proof.decode (.command p) = .ok i) :
    isHostCommand i = true := by
  rcases decodeCommand_cases h with rfl | rfl | rfl | rfl | rfl | rfl | rfl | rfl | rfl <;> rfl

@[simp] theorem isSequenced_codeInit : isSequenced codeInit = true := by decide
@[simp] theorem isSequenced_codeSetMode (m : Mode) : isSequenced (codeSetMode m) = true := by cases m <;> decide
@[simp] theorem isSequenced_codeCfgRead : isSequenced codeCfgRead = true := by decide
@[simp] theorem isSequenced_codeCfgWrite : isSequenced codeCfgWrite = true := by decide
@[simp] theorem isConfigCommand_codeInit : isConfigCommand codeInit = false := by decide

/-- The commands that a block which is not initialised refuses (R185). -/
def needsInit : Instr → Bool
  | .init | .encode _ | .decode _ => false
  | _ => true

/-- LINE_RECV of a block that accepts it (R171). -/
def receiveLine (s : State) : State :=
  match splitLine s.rxbuf with
  | some (line, rest) => { s with rxbuf := rest }.answer { Response.bare .ok with text := some line, hasData := some true }
  | none => s.answer { Response.bare .ok with hasData := some false }

/-- What a command of the host does to a block that accepts it. -/
def commandBody : Instr → State → State
  | .init, s => (s.start codeInit).drive
  | .getMode, s => s.answer { Response.bare .ok with mode := some s.mode }
  | .setMode m, s => (s.start (codeSetMode m)).drive
  | .encode cfg, s =>
    s.answer (if cfg.valid then { Response.bare .ok with blk := some (pack cfg) } else Response.bare .invalidEnumValue)
  | .decode blk, s => s.answer { Response.bare .ok with cfg := some (unpack blk) }
  | .cfgRead, s => (s.start codeCfgRead).drive
  | .cfgWrite cfg, s => ({ s with cfgl := cfg }.start codeCfgWrite).drive
  | .lineSend text, s => (s.uartWrite (text ++ [Config.newline])).answer (Response.bare .ok)
  | .lineRecv, s => s.receiveLine
  | _, s => s

/-- A command of the host is refused, or performed as its body says (R185). -/
theorem exec_hostCommand {i : Instr} (h : isHostCommand i = true) (s : State) :
    exec i s = runCommand (needsInit i) (commandBody i) s := by
  cases i
  case init | getMode | setMode | encode | decode | cfgRead | cfgWrite | lineSend | lineRecv => rfl
  all_goals cases h

/-- Everything a command of the host can make of a state: it is answered at once, refusals among the answers, or an idle block, which
a configuration command asks to be initialised, starts it (R18, R185). -/
inductive CommandTo (s : State) : State → Prop where
  | answer (rx tx : List Byte) (r : Response) (htx : s.txlog <+: tx) : CommandTo s ({ s with rxbuf := rx, txlog := tx }.answer r)
  | start (cfg : Configuration) (code : Byte) (hb : s.busy = false) (hc : isSequenced code = true)
      (hi : isConfigCommand code = true → s.inited = true) : CommandTo s ({ s with cfgl := cfg }.start code).drive

theorem commandTo_refuse (st : Status) (s : State) : s.CommandTo (s.refuse st) := .answer s.rxbuf s.txlog _ (List.prefix_refl _)

theorem commandTo_receiveLine (s : State) : s.CommandTo s.receiveLine := by
  unfold receiveLine
  split
  · exact .answer _ s.txlog _ (List.prefix_refl _)
  · exact .answer s.rxbuf s.txlog _ (List.prefix_refl _)

/-- A command can be refused, and otherwise does what its body does. -/
theorem commandTo_of_runCommand {needsInit : Bool} {body : State → State} {s t : State} (h : runCommand needsInit body s = .next t)
    (hbody : s.busy = false → (needsInit = true → s.inited = true) → s.CommandTo (body s)) : s.CommandTo t := by
  rcases runCommand_cases needsInit body s with ⟨_, e⟩ | ⟨_, _, _, e⟩ | ⟨hb, hi, e⟩ <;> cases e.symm.trans h
  · exact commandTo_refuse .busy s
  · exact commandTo_refuse .notInitialised s
  · exact hbody hb hi

theorem commandTo_of_exec {i : Instr} {s t : State} (hi : isHostCommand i = true) (h : exec i s = .next t) : s.CommandTo t := by
  refine commandTo_of_runCommand ((exec_hostCommand hi s).symm.trans h) fun hb hn => ?_
  cases i
  case init => exact .start s.cfgl codeInit hb (by simp) (by simp)
  case setMode m => exact .start s.cfgl (codeSetMode m) hb (by simp) fun _ => hn rfl
  case cfgRead => exact .start s.cfgl codeCfgRead hb (by simp) fun _ => hn rfl
  case cfgWrite cfg => exact .start cfg codeCfgWrite hb (by simp) fun _ => hn rfl
  case getMode | encode | decode => exact .answer s.rxbuf s.txlog _ (List.prefix_refl _)
  case lineSend text => exact .answer s.rxbuf _ _ (List.prefix_append _ _)
  case lineRecv => exact commandTo_receiveLine s
  all_goals cases hi

/-! ### What a step can do -/

/-- Everything a step can make of a state: where nothing is presented, an idle block stands still and a command in flight goes on by
one row; the block is reset; or a command is presented (R57, R210). -/
inductive StepTo (s : State) : State → Prop where
  | still (hh : s.host = [] ∨ ∃ rest, s.host = .nothing :: rest) (hb : s.busy = false) : StepTo s s.stepStart
  | row {t : State} (hh : s.host = [] ∨ ∃ rest, s.host = .nothing :: rest) (hb : s.busy = true) (r : s.stepStart.RowTo t) :
      StepTo s t
  | reset (rest : List HostAct) (hh : s.host = .reset :: rest) : StepTo s s.stepStart.resetBlock
  | command {t : State} (p : CommandPort) (waits : Bool) (rest : List HostAct) (hh : s.host = .present p waits :: rest)
      (c : { s.stepStart with hostWaits := waits }.CommandTo t) : StepTo s t

theorem stepTo_of_no_command {s t : State} (hh : s.host = [] ∨ ∃ rest, s.host = .nothing :: rest) (h : step s = .next t) :
    s.StepTo t := by
  rw [step_of_no_command hh] at h
  rcases quiet_cases s.draw.aux s.stepStart with ⟨hb, e⟩ | ⟨hb, u, hr, e⟩ | ⟨_, _, e⟩ <;> cases e.symm.trans h
  · exact .still hh hb
  · exact .row hh hb (rowTo_of_row hr)

theorem stepTo_of_command {s t : State} {p : CommandPort} {waits : Bool} {rest : List HostAct}
    (hh : s.host = .present p waits :: rest) (h : step s = .next t) : s.StepTo t := by
  refine .command p waits rest hh ?_
  cases hd : Sys2Proof.decode (.command p) with
  | error r =>
    cases (step_of_illegal hh hd).symm.trans h
    exact commandTo_refuse _ _
  | ok i =>
    simp only [step, hh, List.head?_cons, hd] at h
    split at h
    · exact commandTo_of_exec (isHostCommand_of_decode hd) h
    · cases h

theorem stepTo_of_step {s t : State} (h : step s = .next t) : s.StepTo t := by
  cases hh : s.host with
  | nil => exact stepTo_of_no_command (.inl hh) h
  | cons act rest =>
    cases act with
    | nothing => exact stepTo_of_no_command (.inr ⟨rest, hh⟩) h
    | present p waits => exact stepTo_of_command hh h
    | reset =>
      simp only [step, hh, List.head?_cons] at h
      cases h
      exact .reset rest hh

/-- What a command keeps: where an answer keeps it, a start keeps it and every row of the run keeps it. -/
theorem CommandTo.induct {P : State → Prop} {s t : State} (c : s.CommandTo t)
    (hanswer : ∀ (rx tx : List Byte) (r : Response), s.txlog <+: tx → P ({ s with rxbuf := rx, txlog := tx }.answer r))
    (hstart : ∀ (cfg : Configuration) (code : Byte), s.busy = false → isSequenced code = true →
      (isConfigCommand code = true → s.inited = true) → P ({ s with cfgl := cfg }.start code))
    (hrow : ∀ u v : State, P u → u.envStep.RowTo v → P v) : P t := by
  cases c with
  | answer rx tx r htx => exact hanswer rx tx r htx
  | start cfg code hb hc hi =>
    unfold drive
    split
    · exact runSteps_induct (fun u v hu _ ha => hrow u v hu (rowTo_of_row ha)) _ _ (hstart cfg code hb hc hi)
    · exact hstart cfg code hb hc hi

end Sys2Proof.Machine.State
end

section
/-! SUPPORT. The invariant: it holds after reset, and the environment's act, every row, every command and so every step keep it. -/

namespace Sys2Proof.Machine.State

/-! ### What the invariant does not speak of -/

/-- The invariant speaks of no stream, no operand latch, no response field and no act to come. -/
theorem Inv.congr {s t : State} (h : s.Inv) (ht : t = { s with
      rxbuf := t.rxbuf, txlog := t.txlog, cfgl := t.cfgl, blkl := t.blkl, rspValid := t.rspValid, rsp := t.rsp, env := t.env,
      draws := t.draws, frees := t.frees, host := t.host, hostWaits := t.hostWaits }) : t.Inv := by
  obtain ⟨hpins, herr, ⟨⟩, ⟨⟩, ⟨⟩⟩ := h
  rw [ht]
  exact ⟨hpins, herr.congr rfl rfl rfl, by constructor <;> assumption, by constructor <;> assumption, by constructor <;> assumption⟩

theorem envStep_inv {s : State} (h : s.Inv) : s.envStep.Inv :=
  have hm := h.modes
  ⟨h.pins, envStep_errorsMatch h.errors, envStep_sequencerLegal h.sequencer,
    ⟨hm.enterTarget, hm.exitTarget, hm.entered, hm.inConfig, hm.exchanging, hm.leaving, hm.left, hm.responding, hm.resting⟩,
    envStep_clocksLegal h.clocks⟩

theorem stepStart_inv {s : State} (h : s.Inv) : s.stepStart.Inv := (envStep_inv h).congr rfl

/-! ### The modes of the commands -/

theorem isConfigCommand_of_isTransitionOnly {c : Byte} (h : isTransitionOnly c = true) : isConfigCommand c = false := by
  by_contra hc
  rcases (isConfigCommand_iff c).1 (by simpa using hc) with rfl | rfl <;> exact absurd h (by decide)

/-- INIT and SET_MODE leave the block where their one transition brings it (R126). -/
theorem restMode_of_isTransitionOnly {c : Byte} (h : isTransitionOnly c = true) : restMode c = entryTarget c := by
  simp [restMode, isConfigCommand_of_isTransitionOnly h]

/-- A configuration command enters Program (R153). -/
theorem entryTarget_of_isConfigCommand {c : Byte} (h : isConfigCommand c = true) : entryTarget c = .program := by
  simp [entryTarget, h]

/-- A configuration command leaves the block in Normal (R152). -/
theorem restMode_of_isConfigCommand {c : Byte} (h : isConfigCommand c = true) : restMode c = .normal := by
  simp [restMode, h]

/-! ### Rows -/

theorem RowTo.pinsMatch {s t : State} (r : s.RowTo t) (h : s.PinsMatch) : t.PinsMatch := by
  intro ht
  rcases r.mode with hsame | ⟨_, hshows⟩
  · rw [hsame.mode, hsame.msA, hsame.msB]
    exact h (hsame.inited ▸ ht)
  · rw [hshows.mode, hshows.msA, hshows.msB]
    exact ⟨rfl, rfl⟩

/-- A row of a transition: at P_APPLY the mode becomes the target, and no other row reaches a phase past step 2 (R22, R122). -/
theorem transitionRow_modeLegal (aux : Level) {s : State} (hq : s.seq = .enter ∨ s.seq = .exit) (hp : s.phase ≠ .idle)
    (h : s.ModeLegal) : (s.transitionRow aux).ModeLegal := by
  have henter : s.seq = .enter → s.target = entryTarget s.cmdl := (h.enterTarget · hp)
  have hexit : s.seq = .exit → s.target = .normal := (h.exitTarget · hp)
  have hexchange : s.seq.isExchange = false ∧ s.seq ≠ .respond ∧ s.seq ≠ .idle := by rcases hq with q | q <;> simp [q, Seq.isExchange]
  rcases transitionRow_mode aux s with ⟨_, hshows⟩ | ⟨hsame, happlied⟩
  · obtain ⟨hmode, -, -, hinited⟩ := hshows
    constructor <;> simp_all
  · obtain ⟨hmode, -, -, hinited⟩ := hsame
    obtain ⟨-, -, hentered, hconfig, -, hleaving, hleft, -, -⟩ := h
    constructor <;> simp_all

theorem RowTo.modeLegal {s t : State} (r : s.RowTo t) (he : s.ErrorsMatch) (h : s.ModeLegal) : t.ModeLegal := by
  cases r
  case transition aux hq hp => exact transitionRow_modeLegal aux hq hp h
  all_goals obtain ⟨-, -, hentered, hconfig, hexchanging, hleaving, hleft, hresponding, -⟩ := h
  case enterRead hq hp hc | enterWrite hq hp hc =>
    have hin := hentered hq (by simp [hp, Phase.applied])
    rw [entryTarget_of_isConfigCommand (by simp [hc])] at hin
    constructor <;> simp [hin, Seq.isExchange]
  case enterDone hq hp hc =>
    have hin := hentered hq (by simp [hp, Phase.applied])
    rw [← restMode_of_isTransitionOnly hc] at hin
    constructor <;> simp [hin, Seq.isExchange]
  case exitDone hq hp hc =>
    have hin : s.inited = true := hleaving hq
    have hmode : s.mode = .normal := hleft hq (by simp [hp, Phase.applied])
    constructor <;> simp [hin, hmode, restMode_of_isConfigCommand hc, Seq.isExchange]
  case respond hq _ =>
    have hin := hresponding hq
    rw [he.present_eq_respond]
    constructor <;> simp [hin, Seq.isExchange]
  -- the rows of the exchange stay in it or leave it for S_EXIT
  all_goals
    have hin := hexchanging (by simp [*, Seq.isExchange])
    constructor <;> simp [*, Seq.isExchange, Phase.applied]

theorem RowTo.inv {s t : State} (r : s.RowTo t) (h : s.Inv) : t.Inv :=
  ⟨r.pinsMatch h.pins, r.errorsMatch h.errors, r.sequencerLegal h.errors h.sequencer, r.modeLegal h.errors h.modes,
    r.clocksLegal h.errors h.clocks⟩

/-! ### Commands, reset and steps -/

/-- Acceptance starts the first transition from any state whose pins show MODE and whose parameters are in range (R120, R129, R153). -/
theorem start_inv {s : State} {code : Byte} (hpins : s.PinsMatch) (hpar : s.par.InRange) (hc : isSequenced code = true)
    (hi : isConfigCommand code = true → s.inited = true) : (s.start code).Inv := by
  refine ⟨hpins, ⟨?_, ?_, ?_, ?_⟩, ?_, ?_, ⟨hpar, hpar.2.1, ?_, ?_⟩⟩
  case refine_5 => constructor <;> simp [hc, Seq.isExchange]
  case refine_6 => constructor <;> simp [Seq.isExchange, Phase.applied]; exact hi
  all_goals simp [Status.isRefusal]

theorem CommandTo.inv {s t : State} (c : s.CommandTo t) (h : s.Inv) : t.Inv :=
  c.induct (fun _ _ _ _ => h.congr rfl) (fun _ _ _ hc hi => start_inv h.pins h.clocks.params hc hi)
    fun _ _ hu r => r.inv (envStep_inv hu)

/-- A reset, in whatever state, meets the invariant where the parameters are in range (R30, R210). -/
theorem resetBlock_inv {s : State} (h : s.par.InRange) : s.resetBlock.Inv := by
  refine ⟨?_, ?_, ?_, ?_, h, ?_, ?_, ?_⟩
  case refine_1 => simp [PinsMatch, reset]
  case refine_2 | refine_3 | refine_4 => constructor <;> simp [reset, Status.isRefusal, Seq.isExchange]
  all_goals simp [reset]

/-- The parameters after reset are in range, whatever the open ones are (R5, log entry 4). -/
theorem params_inRange : Config.params.InRange :=
  ⟨Nat.le_max_left _ _, by decide, Nat.max_lt.2 ⟨by decide, Config.pollMs.isLt⟩, Config.readyTimeoutMs.isLt, Config.frameTimeoutMs.isLt⟩

theorem StepTo.inv {s t : State} (st : s.StepTo t) (h : s.Inv) : t.Inv := by
  have hstart : s.stepStart.Inv := stepStart_inv h
  cases st
  case still => exact hstart
  case row r => exact r.inv hstart
  case reset => exact resetBlock_inv h.clocks.params
  case command c => exact c.inv (hstart.congr rfl)

/-- Settles O43: every kind of step keeps the invariant (`StepTo.inv`). -/
theorem everyStepKeepsTheInvariant : Obligations.EveryStepKeepsTheInvariant :=
  fun _ _ h hstep => (stepTo_of_step hstep).inv h

/-- Settles O42: reset gives the state that a reset of the reset state gives. -/
theorem resetMeetsTheInvariant : Obligations.ResetMeetsTheInvariant :=
  resetBlock_inv (s := State.reset) params_inRange

/-- Settles O45: both clauses are the invariant's clause on an idle block, read in both directions. -/
theorem anIdleBlockStandsAtIdle : Obligations.AnIdleBlockStandsAtIdle := by
  intro s t h hstep
  have hidle : t.busy = false → t.seq = .idle ∧ t.phase = .idle := (everyStepKeepsTheInvariant s t h hstep).sequencer.idle
  refine ⟨hidle, fun hp => ?_⟩
  by_contra hb
  exact hp (hidle (by simpa using hb)).2

/-- Between step 2 of a transition and its end, MODE is at TARGET (R22, R122). -/
theorem Inv.mode_eq_target {s : State} (h : s.Inv) (ha : s.phase.applied = true) (hp : s.phase ≠ .idle) : s.mode = s.target := by
  rcases h.sequencer.inner hp with q | q
  · rw [(h.modes.entered q ha).2, h.modes.enterTarget q hp]
  · rw [h.modes.left q ha, h.modes.exitTarget q hp]

/-- Settles O46: each clause is read off the invariant of the state after the step. -/
theorem modeFollowsTheTransitions : Obligations.ModeFollowsTheTransitions := by
  intro s t h hstep
  have hinv : t.Inv := everyStepKeepsTheInvariant s t h hstep
  have hrest : t.busy = false → t.inited = true → t.mode = restMode t.cmdl := fun hb =>
    hinv.modes.resting (hinv.sequencer.idle hb).1
  refine ⟨fun hi => ?_, ?_, ?_, ?_, ?_, fun q => (hinv.modes.responding q).2, hrest, fun hb hi hc => ?_⟩
  · obtain ⟨hA, hB⟩ := hinv.pins hi
    simp [State.pins, hi, hA, hB]
  · rintro (p | p | p | p) <;> exact hinv.mode_eq_target (by simp [p, Phase.applied]) (by simp [p])
  · exact fun q p => (hinv.modes.entered q (by simp [p, Phase.applied])).2
  · rintro (q | q | q | q) <;> exact (hinv.modes.exchanging (by simp [q, Seq.isExchange])).2
  · exact fun q p => hinv.modes.left q (by simp [p, Phase.applied])
  · rw [hrest hb hi]
    rcases hc with c | c | c <;> rw [c] <;> decide

end Sys2Proof.Machine.State
end

section
/-! SUPPORT. What single rows and steps do and keep: MODE and the pins, RXBUF, TXLOG and INITED, the step as its row or its instruction,
and the two paces of a command in flight. -/

namespace Sys2Proof.Machine.State

/-! ### Rows -/

/-- Settles O28: `RowTo.mode`, with the relation between the two states written out. -/
theorem onlyTheApplyRowChangesModeAndPins : Obligations.OnlyTheApplyRowChangesModeAndPins := by
  intro aux s t h
  rcases (rowTo_of_row h).mode with hsame | ⟨hp, hshows⟩
  · exact .inl ⟨hsame.mode, hsame.msA, hsame.msB, hsame.inited⟩
  · exact .inr ⟨hp, hshows.mode, hshows.msA, hshows.msB, hshows.inited⟩

/-- Settles O29: of the rows outside a transition only the two reads and the ShortRead change RXBUF; a TransportTimeout finds it empty. -/
theorem rowsChangeTheReceiveBufferOnlyByDrainAndRead : Obligations.RowsChangeTheReceiveBufferOnlyByDrainAndRead := by
  intro aux s t h
  cases rowTo_of_row h
  case transition aux _ _ => exact (transitionRow_rxbuf aux s).imp_right .inl
  case receive hq hp hc hlen => exact .inr (.inr (.inl ⟨hq, hc, rfl, hlen, rfl⟩))
  case acknowledge hq hp hc hlen => exact .inr (.inr (.inr (.inl ⟨hq, hc, rfl, hlen, rfl⟩)))
  case short hq _ _ _ _ => exact .inr (.inr (.inr (.inr ⟨hq, ⟨rfl, rfl⟩, rfl⟩)))
  case timeout hr => exact .inl (by simp [hr])
  case respond => exact .inl (present_rxbuf s.err s)
  all_goals exact .inl rfl

/-! ### Steps -/

/-- Settles O47: an answer and a row only append, so a run does; where nothing is presented, only the row S_TX writes. -/
theorem theTransmitLogOnlyGrows : Obligations.TheTransmitLogOnlyGrows := by
  intro s t hreset hstep
  have hto : s.StepTo t := stepTo_of_step hstep
  constructor
  · suffices h : s.txlog <+: t.txlog by
      obtain ⟨bs, hbs⟩ := h
      exact ⟨bs, hbs.symm⟩
    cases hto
    case still => exact List.prefix_refl _
    case row r => exact r.txlog
    case reset rest hh => exact absurd hh (hreset rest)
    case command c =>
      exact c.induct (P := fun u => s.txlog <+: u.txlog) (fun _ _ _ htx => htx) (fun _ _ _ _ _ => List.prefix_refl _)
        fun _ _ hu r => hu.trans r.txlog
  · intro hh hidle
    cases hto
    case still => rfl
    case row hb r => exact r.txlog_of_seq_ne_tx (hidle.resolve_left (by simp [hb]))
    case reset rest hh => exact absurd hh (hreset rest)
    case command hc _ => rcases hh with hh | ⟨_, hh⟩ <;> simp [hh] at hc

/-- Settles O48: no row takes INITED away (`RowTo.inited`), and a command changes it by its rows only. -/
theorem initedIsClearedByResetOnly : Obligations.InitedIsClearedByResetOnly := by
  intro s t hreset hi hstep
  cases stepTo_of_step hstep
  case still => exact hi
  case row r => exact r.inited hi
  case reset rest hh => exact absurd hh (hreset rest)
  case command c =>
    exact c.induct (P := fun u => u.inited = true) (fun _ _ _ _ => hi) (fun _ _ _ _ _ => hi) fun _ _ hu r => r.inited hu

/-- Settles O56: the step is `quiet` of the state that the step starts from, which is `u`. -/
theorem aQuietStepIsExactlyItsRow : Obligations.AQuietStepIsExactlyItsRow := by
  rintro s u hh (rfl : u = s.stepStart)
  rw [step_of_no_command hh]
  rcases quiet_cases s.draw.aux s.stepStart with ⟨hb, e⟩ | ⟨hb, t, hr, e⟩ | ⟨hb, hr, e⟩ <;> rw [stepStart_busy] at hb
  · exact ⟨fun _ => e, by simp [hb], by simp [hb]⟩
  · exact ⟨by simp [hb], by simp [e, hr], by simp [hr]⟩
  · exact ⟨by simp [hb], by simp [e, hr], fun _ _ => e⟩

/-- Settles O18: a well-formed instruction is admitted whatever the block is doing. -/
theorem stepRunsTheDecodedInstruction : Obligations.StepRunsTheDecodedInstruction := by
  intro p w rest i s hh hd hwf
  have hadmits : s.stepStart.admits i = true := by simp [admits, hwf]
  simp only [step, hh, List.head?_cons, hd, hadmits, ↓reduceIte]
  simp [stepStart, hh]

/-- Settles O51: each value is the one written in the reset state. -/
theorem resetValuesOfTheSpec : Obligations.ResetValuesOfTheSpec :=
  ⟨rfl, rfl, rfl, rfl, rfl, rfl, rfl, rfl, rfl, rfl, rfl, rfl, rfl⟩

/-! ### One row a step, and the run in one step -/

@[simp] theorem present_host (st : Status) (s : State) : (s.present st).host = s.host := by
  rcases present_cases st s with ⟨_, e⟩ | ⟨_, e⟩ <;> rw [e] <;> rfl

theorem RowTo.host {s t : State} (r : s.RowTo t) : t.host = s.host := by
  cases r <;> simp

/-- No row but the response starts a pulse of `rsp_valid` (R26, R153). -/
theorem RowTo.rspValid {s t : State} (r : s.RowTo t) (he : s.ErrorsMatch) (ht : t.busy = true) : t.rspValid = s.rspValid := by
  cases r
  case respond =>
    rw [he.present_eq_respond] at ht
    cases ht
  all_goals simp

/-- With no host act to take and no pulse to end, a step starts with the environment's act alone. -/
theorem stepStart_eq_envStep {s : State} (hh : s.host = []) (hv : s.rspValid = false) : s.stepStart = s.envStep := by
  have hhost : s.host.tail = s.envStep.host := by simp [hh]
  unfold stepStart
  rw [hhost, ← hv]
  rfl

theorem step_eq_of_advance {s t : State} (hb : s.busy = true) (hh : s.host = []) (hv : s.rspValid = false) (ha : s.advance = some t) :
    step s = .next t := by
  rw [step_of_no_command (.inl hh), stepStart_eq_envStep hh hv]
  have hr : s.envStep.row s.draw.aux = some t := ha
  simp [quiet, hb, hr]

theorem run_succ {k : Nat} {s t : State} (h : step s = .next t) :
    Host.Core.run Sys2Proof.core (k + 1) s = Host.Core.run Sys2Proof.core k t := by
  have h' : Sys2Proof.core.step s = .next t := h
  simp [Host.Core.run, h']

/-- Steps of the machine, one row each, come to every state that a run in one step comes to. -/
theorem InRun.exists_run (n : Nat) {s : State} (h : s.InRun) (hh : s.host = []) (hv : s.busy = true → s.rspValid = false) :
    ∃ k : Nat, Host.Core.run Sys2Proof.core k s = .next (s.runSteps n) := by
  induction n generalizing s with
  | zero => exact ⟨0, rfl⟩
  | succ n ih =>
    cases hb : s.busy
    · exact ⟨0, by rw [runSteps_idle _ hb]; rfl⟩
    · obtain ⟨t, ha⟩ := h.exists_advance hb
      have r : s.envStep.RowTo t := rowTo_of_row ha
      have hpulse : t.busy = true → t.rspValid = false := fun ht =>
        (r.rspValid (envStep_errorsMatch h.errors) ht).trans (hv hb)
      obtain ⟨k, hk⟩ := ih (h.advance ha) (r.host.trans hh) hpulse
      exact ⟨k + 1, by rw [run_succ (step_eq_of_advance hb hh (hv hb) ha), hk, runSteps_succ n hb ha]⟩

/-- Settles O50: `InRun.exists_run`, over as many rows as the run in one step has. -/
theorem rowByRowComesToTheSameResponse : Obligations.RowByRowComesToTheSameResponse :=
  fun s h hb hh hv => (inRun_of_inv h hb).exists_run s.work hh fun _ => hv

end Sys2Proof.Machine.State
end

section
/-! SUPPORT. What is still to be read of a state decides everything that follows: each operation does the same to a state and to its
live part, up to what is dead afterwards; so do rows, runs, commands and steps. -/

namespace Sys2Proof.Machine.State

/-! ### Copies up to what is dead -/

/-- `t` differs from `s` at most in MODE, the pins, TARGET, the timers, the command latches and the response fields: in what R30 gives
no value at reset. -/
abbrev SameSpecified (s t : State) : Prop :=
  t = { s with
    mode := t.mode, msA := t.msA, msB := t.msB, target := t.target, tmr := t.tmr, t0 := t.t0, ft0 := t.ft0, cmdl := t.cmdl,
    cfgl := t.cfgl, blkl := t.blkl, rsp := t.rsp }

/-- `t` is a copy of `s` in everything that is still to be read of `s` (R30, R154, U23, U24). -/
structure LiveCopy (s t : State) : Prop where
  mode   : s.inited = true → t.mode = s.mode
  msA    : s.inited = true → t.msA = s.msA
  msB    : s.inited = true → t.msB = s.msB
  target : s.phase.readsTarget = true → t.target = s.target
  tmr    : s.phase.readsTmr = true → t.tmr = s.tmr
  t0     : s.phase.readsT0 = true → t.t0 = s.t0
  ft0    : s.seq = .rx → t.ft0 = s.ft0
  cmdl   : s.busy = true → t.cmdl = s.cmdl
  cfgl   : s.cfglLive = true → t.cfgl = s.cfgl
  blkl   : s.blklLive = true → t.blkl = s.blkl
  rsp    : s.rspValid = true → t.rsp = s.rsp
  others : s.SameSpecified t

theorem live_cmdl {s : State} (h : s.busy = true) : s.live.cmdl = s.cmdl := by simp [live, h]
theorem live_msA {s : State} (h : s.inited = true) : s.live.msA = s.msA := by simp [live, h]
theorem live_msB {s : State} (h : s.inited = true) : s.live.msB = s.msB := by simp [live, h]
theorem live_target {s : State} (h : s.phase.readsTarget = true) : s.live.target = s.target := by simp [live, h]
theorem live_tmr {s : State} (h : s.phase.readsTmr = true) : s.live.tmr = s.tmr := by simp [live, h]
theorem live_t0 {s : State} (h : s.phase.readsT0 = true) : s.live.t0 = s.t0 := by simp [live, h]
theorem live_ft0 {s : State} (h : s.seq = .rx) : s.live.ft0 = s.ft0 := by simp [live, h]

theorem liveCopy_live (s : State) : s.LiveCopy s.live :=
  ⟨live_mode, live_msA, live_msB, live_target, live_tmr, live_t0, live_ft0, live_cmdl, live_cfgl, live_blkl, live_rsp, rfl⟩

/-- Whether a latch is still to be read is read off what is live. -/
theorem cfglLive_congr {s t : State} (hb : t.busy = s.busy) (hq : t.seq = s.seq) (he : t.err = s.err)
    (hc : s.busy = true → t.cmdl = s.cmdl) : t.cfglLive = s.cfglLive := by
  cases h : s.busy <;> simp [cfglLive, hb, hq, he, h, hc]

theorem blklLive_congr {s t : State} (hb : t.busy = s.busy) (hq : t.seq = s.seq)
    (hc : s.busy = true → t.cmdl = s.cmdl) : t.blklLive = s.blklLive := by
  cases h : s.busy <;> simp [blklLive, hb, hq, h, hc]

theorem LiveCopy.live_eq {s t : State} (h : s.LiveCopy t) : t.live = s.live := by
  obtain ⟨hmode, hmsA, hmsB, htarget, htmr, ht0, hft0, hcmdl, hcfgl, hblkl, hrsp, hothers⟩ := h
  have hc : t.cfglLive = s.cfglLive := by rw [hothers]; exact cfglLive_congr rfl rfl rfl hcmdl
  have hl : t.blklLive = s.blklLive := by rw [hothers]; exact blklLive_congr rfl rfl hcmdl
  unfold live
  rw [hc, hl, hothers]
  simp only [State.mk.injEq, true_and, and_true]
  refine ⟨?_, ?_, ?_, ?_, ?_, ?_, ?_, ?_, ?_, ?_, ?_⟩ <;> exact ite_congr rfl (by assumption) (fun _ => rfl)

theorem live_live (s : State) : s.live.live = s.live := s.liveCopy_live.live_eq

/-- The bound on the steps is read off what is live. -/
@[simp] theorem live_work (s : State) : s.live.work = s.work := by
  have hphase : s.live.phaseWork = s.phaseWork := by
    unfold phaseWork readyLeft
    cases hp : s.phase <;> simp [live, hp, Phase.readsTmr, Phase.readsT0]
  unfold work
  cases hq : s.seq <;> simp [hq, hphase]
  rw [live_ft0 hq]

/-- A function that cannot tell a state from its live part takes equal values at states with the same live part. -/
theorem eq_of_live_eq {α : Type} {f : State → α} (hf : ∀ s, f s.live = f s) {s u : State} (h : s.live = u.live) : f s = f u := by
  rw [← hf s, h, hf u]

/-! ### Shared operations -/

theorem setWarn_live (s : State) : s.live.setWarn = s.setWarn.live := rfl
theorem uartDrain_live (s : State) : s.live.uartDrain = s.uartDrain.live := rfl
theorem takeBytes_live (n : Nat) (s : State) : s.live.takeBytes n = (s.takeBytes n).live := rfl
theorem resetBlock_live (s : State) : s.live.resetBlock = s.resetBlock := rfl

theorem pass_live (d : Nat) (s : State) : (s.live.pass d).live = (s.pass d).live :=
  LiveCopy.live_eq { s.liveCopy_live with tmr := fun h => congrArg (· - d) (live_tmr h), others := rfl }

theorem envStep_live (s : State) : s.live.envStep.live = s.envStep.live :=
  LiveCopy.live_eq { s.liveCopy_live with tmr := fun h => congrArg (· - s.draw.dt) (live_tmr h), others := rfl }

theorem stepStart_live (s : State) : s.live.stepStart.live = s.stepStart.live :=
  LiveCopy.live_eq
    { s.liveCopy_live with tmr := fun h => congrArg (· - s.draw.dt) (live_tmr h), rsp := by simp, others := rfl }

theorem answer_live (r : Response) (s : State) : (s.live.answer r).live = (s.answer r).live :=
  LiveCopy.live_eq { s.liveCopy_live with rsp := fun _ => rfl, others := rfl }

theorem raiseError_live {e : Status} (bytes : List Byte) (s : State) (he : e ≠ .ok) :
    (s.live.raiseError e bytes).live = (s.raiseError e bytes).live :=
  LiveCopy.live_eq { s.liveCopy_live with
    target := fun _ => rfl, tmr := fun _ => rfl, t0 := by simp [Phase.readsT0], ft0 := by simp,
    cfgl := by simp [cfglLive, he], blkl := by simp [blklLive], others := rfl }

/-! ### Rows of a transition -/

/-- PHASE moves on: it may end a wait or pass a row that reads, but start none. -/
theorem withPhase_live (p : Phase) (s : State) (htarget : p.readsTarget = true → s.phase.readsTarget = true)
    (htmr : p.readsTmr = true → s.phase.readsTmr = true) (ht0 : p.readsT0 = true → s.phase.readsT0 = true) :
    { s.live with phase := p }.live = { s with phase := p }.live :=
  LiveCopy.live_eq { s.liveCopy_live with
    target := fun h => live_target (htarget h), tmr := fun h => live_tmr (htmr h), t0 := fun h => live_t0 (ht0 h), others := rfl }

theorem applyMode_live (m : Mode) (s : State) : (s.live.applyMode m).live = (s.applyMode m).live :=
  LiveCopy.live_eq { s.liveCopy_live with
    mode := fun _ => rfl, msA := fun _ => rfl, msB := fun _ => rfl, target := by simp [Phase.readsTarget], tmr := fun _ => rfl,
    t0 := by simp [Phase.readsT0], others := rfl }

theorem startPoll_live (now : Nat) (s : State) :
    { s.live with t0 := now, phase := .poll }.live = { s with t0 := now, phase := .poll }.live :=
  LiveCopy.live_eq { s.liveCopy_live with
    target := by simp [Phase.readsTarget], tmr := by simp [Phase.readsTmr], t0 := fun _ => rfl, others := rfl }

theorem pollAgain_live (d : Nat) {s : State} (hp : s.phase = .poll) :
    { s.live with tmr := d, phase := .pollWait }.live = { s with tmr := d, phase := .pollWait }.live :=
  LiveCopy.live_eq { s.liveCopy_live with
    target := by simp [Phase.readsTarget], tmr := fun _ => rfl, t0 := fun _ => live_t0 (by simp [hp, Phase.readsT0]), others := rfl }

theorem transitionRow_live (aux : Level) {s : State} (hp : s.phase ≠ .idle) :
    (s.live.transitionRow aux).live = (s.transitionRow aux).live := by
  cases hq : s.phase <;> simp only [transitionRow, live_phase, hq]
  case idle => exact absurd hq hp
  case apply =>
    rw [live_target (by simp [hq, Phase.readsTarget])]
    exact applyMode_live _ s
  case settle1 | settle2 | pollWait =>
    rw [live_tmr (by simp [hq, Phase.readsTmr])]
    split
    · exact withPhase_live _ s (by simp [hq, Phase.readsTarget]) (by simp [hq, Phase.readsTmr]) (by simp [hq, Phase.readsT0])
    · exact pass_live 1 s
  case drain =>
    rw [uartDrain_live]
    exact startPoll_live s.now s.uartDrain
  case poll =>
    cases aux with
    | low => exact withPhase_live .idle s (by simp [Phase.readsTarget]) (by simp [Phase.readsTmr]) (by simp [Phase.readsT0])
    | high =>
      have hguard : (s.live.par.readyTimeoutMs ≤ s.live.now - s.live.t0) = (s.par.readyTimeoutMs ≤ s.now - s.t0) := by
        rw [live_t0 (by simp [hq, Phase.readsT0]), live_par, live_now]
      simp only [hguard, setWarn_live]
      split
      · exact withPhase_live .idle s.setWarn (by simp [Phase.readsTarget]) (by simp [Phase.readsTmr]) (by simp [Phase.readsT0])
      · exact pollAgain_live _ hq

/-! ### Rows of the command table -/

/-- SEQ moves on, past the reader of a latch but to no new one. -/
theorem withSeq_live (q : Seq) (s : State) (hq : q ≠ .rx) (hcfgl : { s with seq := q }.cfglLive = true → s.cfglLive = true)
    (hblkl : { s with seq := q }.blklLive = true → s.blklLive = true) :
    { s.live with seq := q }.live = { s with seq := q }.live :=
  LiveCopy.live_eq { s.liveCopy_live with
    ft0 := fun h => absurd h hq, cfgl := fun h => live_cfgl (hcfgl h), blkl := fun h => live_blkl (hblkl h), others := rfl }

theorem encodeRecord_live (cfg : Configuration) {s : State} (hc : s.cmdl = codeCfgWrite) :
    (s.live.encodeRecord cfg).live = (s.encodeRecord cfg).live := by
  unfold encodeRecord
  split
  · exact LiveCopy.live_eq { s.liveCopy_live with
      ft0 := by simp, cfgl := by simp [cfglLive, hc], blkl := fun _ => rfl, others := rfl }
  · exact raiseError_live [] s (by decide)

theorem sendFrame_live (frame : List Byte) (s : State) : (s.live.sendFrame frame).live = (s.sendFrame frame).live :=
  LiveCopy.live_eq { s.liveCopy_live with
    ft0 := fun _ => rfl, cfgl := by simp [cfglLive], blkl := by simp [blklLive], others := rfl }

theorem readLook_live (n : Nat) {s : State} (hq : s.seq = .rx) : s.live.readLook n = s.readLook n := by
  simp only [readLook, live_rxbuf, live_par, live_now, live_ft0 hq]

theorem received_live (blk : Block) (s : State) :
    { s.live with blkl := blk, seq := .decode }.live = { s with blkl := blk, seq := .decode }.live :=
  LiveCopy.live_eq { s.liveCopy_live with ft0 := by simp, cfgl := by simp [cfglLive], blkl := fun _ => rfl, others := rfl }

/-- A CFG_WRITE is done with its record before it leaves. -/
theorem leave_live {s : State} (hc : s.cmdl = codeCfgWrite) : s.live.leave.live = s.leave.live :=
  LiveCopy.live_eq { s.liveCopy_live with
    target := fun _ => rfl, tmr := fun _ => rfl, t0 := by simp [Phase.readsT0], ft0 := by simp,
    cfgl := by simp [cfglLive, hc], blkl := by simp [blklLive], others := rfl }

theorem decodeBlock_live (blk : Block) (s : State) : (s.live.decodeBlock blk).live = (s.decodeBlock blk).live :=
  LiveCopy.live_eq { s.liveCopy_live with
    target := fun _ => rfl, tmr := fun _ => rfl, t0 := by simp [Phase.readsT0], ft0 := by simp,
    cfgl := fun _ => rfl, blkl := by simp [blklLive], others := rfl }

theorem readResponseRow_live {s : State} (hq : s.seq = .rx) : s.live.readResponseRow.live = s.readResponseRow.live := by
  simp only [readResponseRow, readLook_live _ hq, takeBytes_live, uartDrain_live]
  split
  · exact received_live _ (s.takeBytes _)
  · exact raiseError_live _ s.uartDrain (by decide)
  · exact raiseError_live _ s.uartDrain (by decide)
  · exact pass_live 1 s

theorem readAckRow_live {s : State} (hq : s.seq = .rx) (hc : s.cmdl = codeCfgWrite) : s.live.readAckRow.live = s.readAckRow.live := by
  simp only [readAckRow, readLook_live _ hq, takeBytes_live, uartDrain_live]
  split
  · exact leave_live (s := s.takeBytes _) hc
  · exact raiseError_live _ s.uartDrain (by decide)
  · exact raiseError_live _ s.uartDrain (by decide)
  · exact pass_live 1 s

/-- The response reads nothing dead: the record where it is that of a CFG_READ without an error, the mode where it is set. -/
theorem response_live {s : State} (hb : s.busy = true) (hq : s.seq = .respond) : s.live.response s.err = s.response s.err := by
  simp +contextual [response, live, cfglLive, hb, hq]

theorem respond_live {st : Status} {s : State} (hb : s.busy = true) (hr : s.live.response st = s.response st) :
    (s.live.respond st).live = (s.respond st).live := by
  have hc : s.live.cmdl = s.cmdl := live_cmdl hb
  exact LiveCopy.live_eq { s.liveCopy_live with
    ft0 := by simp, cmdl := by simp, cfgl := by simp [cfglLive], blkl := by simp [blklLive], rsp := fun _ => hr,
    others := by simp [respond, forgetLatches, answer, hc] }

theorem present_live {s : State} (hb : s.busy = true) (hq : s.seq = .respond) :
    (s.live.present s.err).live = (s.present s.err).live := by
  unfold present
  split
  · exact answer_live _ s
  · exact respond_live hb (response_live hb hq)

theorem map_live_some {x y : State} (h : x.live = y.live) : (some x).map live = (some y).map live := congrArg some h

/-- Two rows under one guard do the same to what is live where each branch does. -/
theorem map_live_ite {c : Prop} [Decidable c] {x y x' y' : Option State} (ht : c → x.map live = x'.map live)
    (hf : ¬c → y.map live = y'.map live) : (if c then x else y).map live = (if c then x' else y').map live := by
  split
  next h => exact ht h
  next h => exact hf h

/-- A row of a command in flight does the same to what is live, and is enabled where it is. -/
theorem row_live (aux : Level) {s : State} (hb : s.busy = true) : (s.live.row aux).map live = (s.row aux).map live := by
  have hcmd : s.live.cmdl = s.cmdl := live_cmdl hb
  -- the guards alone are rewritten, so that both sides keep the form of the operations
  have hphase : (s.live.phase = .idle) = (s.phase = .idle) := rfl
  have hcode (c : Byte) : (s.live.cmdl = c) = (s.cmdl = c) := by rw [hcmd]
  have htransition : isTransitionOnly s.live.cmdl = isTransitionOnly s.cmdl := by rw [hcmd]
  have hconfig : isConfigCommand s.live.cmdl = isConfigCommand s.cmdl := by rw [hcmd]
  cases hq : s.seq <;> simp only [row, live_seq, hq, ne_eq, hphase, hcode, htransition, hconfig]
  case enter =>
    refine map_live_ite (fun hp => map_live_some (transitionRow_live aux hp)) fun _ =>
      map_live_ite (fun hr => map_live_some (withSeq_live .tx s (by decide) (by simp [cfglLive]) ?_)) fun hr =>
      map_live_ite (fun hw => map_live_some (withSeq_live .encode s (by decide) ?_ (by simp [blklLive]))) fun _ =>
      map_live_ite (fun _ => map_live_some (withSeq_live .respond s (by decide) ?_ (by simp [blklLive]))) fun _ => rfl
    · simp [blklLive, hr, codeCfgWrite_ne_codeCfgRead.symm]
    · simp [cfglLive, hb, hq, hw]
    · simp [cfglLive, hr]
  case encode =>
    refine map_live_ite (fun h => ?_) fun _ => rfl
    rw [live_cfgl (by simp [cfglLive, hb, hq, h.2])]
    exact map_live_some (encodeRecord_live _ h.2)
  case tx =>
    refine map_live_ite (fun _ => rfl) fun _ => map_live_ite (fun _ => map_live_some (sendFrame_live _ s)) fun _ =>
      map_live_ite (fun hw => ?_) fun _ => rfl
    rw [live_blkl (by simp [blklLive, hb, hq, hw])]
    exact map_live_some (sendFrame_live _ s)
  case rx =>
    exact map_live_ite (fun _ => rfl) fun _ => map_live_ite (fun _ => map_live_some (readResponseRow_live hq)) fun _ =>
      map_live_ite (fun hw => map_live_some (readAckRow_live hq hw)) fun _ => rfl
  case decode =>
    rw [live_blkl (by simp [blklLive, hb, hq])]
    exact map_live_ite (fun _ => map_live_some (decodeBlock_live _ s)) fun _ => rfl
  case exit =>
    exact map_live_ite (fun hp => map_live_some (transitionRow_live aux hp)) fun _ =>
      map_live_ite (fun _ => map_live_some (withSeq_live .respond s (by decide) (by simp [cfglLive, hq]) (by simp [blklLive])))
        fun _ => rfl
  case respond => exact map_live_ite (fun _ => map_live_some (present_live hb hq)) fun _ => rfl

/-! ### Runs -/

theorem row_congr {aux : Level} {s u : State} (hb : s.busy = true) (h : s.live = u.live) :
    (s.row aux).map live = (u.row aux).map live := by
  have hb' : u.busy = true := by rw [← live_busy u, ← h, live_busy, hb]
  rw [← row_live aux hb, h, row_live aux hb']

theorem draw_congr {s u : State} (h : s.live = u.live) : s.draw = u.draw := eq_of_live_eq live_draw h

theorem advance_congr {s u : State} (hb : s.busy = true) (h : s.live = u.live) : s.advance.map live = u.advance.map live := by
  unfold advance
  rw [draw_congr h]
  exact row_congr (s := s.envStep) hb (eq_of_live_eq (f := fun s => s.envStep.live) envStep_live h)

theorem runSteps_congr (n : Nat) {s u : State} (h : s.live = u.live) : (s.runSteps n).live = (u.runSteps n).live := by
  induction n generalizing s u with
  | zero => exact h
  | succ n ih =>
    have hbusy : s.busy = u.busy := eq_of_live_eq live_busy h
    cases hb : s.busy
    · rw [runSteps_idle _ hb, runSteps_idle _ (hbusy ▸ hb), h]
    · have ha := advance_congr hb h
      simp only [runSteps, ← hbusy, hb]
      cases hs : s.advance <;> cases hu : u.advance <;>
        simp only [hs, hu, Option.map_none, Option.map_some, reduceCtorEq, Option.some.injEq] at ha
      · exact h
      · exact ih ha

theorem drive_live (s : State) : s.live.drive.live = s.drive.live := by
  unfold drive
  rw [live_hostWaits, live_work]
  split
  · exact runSteps_congr _ s.live_live
  · exact s.live_live

/-! ### Commands and steps -/

/-- A stop of the machine, or what is live in its next state. -/
def liveOutcome : Host.Outcome State Fault Refusal → Host.Outcome State Fault Refusal
  | .next t => .next t.live
  | .fault r => .fault r
  | .refused r => .refused r

theorem liveOutcome_next {x y : State} (h : x.live = y.live) : liveOutcome (.next x) = liveOutcome (.next y) :=
  congrArg Host.Outcome.next h

theorem exists_next_of_liveOutcome_eq {x y : Host.Outcome State Fault Refusal} {t : State} (h : liveOutcome x = liveOutcome y)
    (hx : x = .next t) : ∃ t', y = .next t' ∧ t'.live = t.live := by
  subst hx
  cases y <;> simp only [liveOutcome, reduceCtorEq, Host.Outcome.next.injEq] at h
  exact ⟨_, rfl, h.symm⟩

/-- Acceptance leaves nothing of the timers and of the block latch to be read; of the record latch only CFG_WRITE's. -/
theorem LiveCopy.start_live {s u : State} (h : s.LiveCopy u) (code : Byte) (hcfgl : code = codeCfgWrite → u.cfgl = s.cfgl) :
    (u.start code).live = (s.start code).live :=
  LiveCopy.live_eq { h with
    target := fun _ => rfl, tmr := fun _ => congrArg (·.par.settleMs) h.others, t0 := by simp [Phase.readsT0], ft0 := by simp,
    cmdl := fun _ => rfl, cfgl := fun hc => hcfgl (by simpa [cfglLive] using hc), blkl := by simp [blklLive],
    others := by rw [h.others]; rfl }

theorem start_drive_live (code : Byte) (hc : code ≠ codeCfgWrite) (s : State) :
    (s.live.start code).drive.live = (s.start code).drive.live :=
  eq_of_live_eq (f := fun s => s.drive.live) drive_live (s.liveCopy_live.start_live code fun h => absurd h hc)

theorem start_cfgWrite_drive_live (cfg : Configuration) (s : State) :
    ({ s.live with cfgl := cfg }.start codeCfgWrite).drive.live = ({ s with cfgl := cfg }.start codeCfgWrite).drive.live := by
  have hcopy : { s with cfgl := cfg }.LiveCopy { s.live with cfgl := cfg } :=
    { s.liveCopy_live with cfgl := fun _ => rfl, others := rfl }
  exact eq_of_live_eq (f := fun s => s.drive.live) drive_live (hcopy.start_live codeCfgWrite fun _ => rfl)

theorem receiveLine_live (s : State) : s.live.receiveLine.live = s.receiveLine.live := by
  unfold receiveLine
  rw [live_rxbuf]
  split
  next rest _ => exact answer_live _ { s with rxbuf := rest }
  next => exact answer_live _ s

theorem codeSetMode_ne_codeCfgWrite (m : Mode) : codeSetMode m ≠ codeCfgWrite := by cases m <;> decide

theorem commandBody_live {i : Instr} (hi : isHostCommand i = true) {s : State} (hn : needsInit i = true → s.inited = true) :
    (commandBody i s.live).live = (commandBody i s).live := by
  cases i
  case init => exact start_drive_live codeInit (by decide) s
  case setMode m => exact start_drive_live (codeSetMode m) (codeSetMode_ne_codeCfgWrite m) s
  case cfgRead => exact start_drive_live codeCfgRead (by decide) s
  case cfgWrite cfg => exact start_cfgWrite_drive_live cfg s
  case getMode =>
    simp only [commandBody, live_mode (hn rfl)]
    exact answer_live _ s
  case encode | decode => exact answer_live _ s
  case lineSend text => exact answer_live _ (s.uartWrite (text ++ [Config.newline]))
  case lineRecv => exact receiveLine_live s
  all_goals cases hi

/-- A block refuses nothing where it is idle and the command does not miss INIT (R185). -/
theorem refusal_eq_none_iff (needsInit : Bool) (s : State) :
    s.refusal needsInit = none ↔ s.busy = false ∧ (needsInit = true → s.inited = true) := by
  cases needsInit <;> cases hb : s.busy <;> cases hi : s.inited <;> simp [refusal, hb, hi]

/-- A command that a block does not refuse is performed. -/
theorem exec_of_accepted {i : Instr} {s : State} (h : isHostCommand i = true) (hb : s.busy = false)
    (hn : needsInit i = true → s.inited = true) : exec i s = .next (commandBody i s) := by
  rw [exec_hostCommand h, runCommand, (refusal_eq_none_iff _ s).2 ⟨hb, hn⟩]

theorem exec_live {i : Instr} (hi : isHostCommand i = true) (s : State) : liveOutcome (exec i s.live) = liveOutcome (exec i s) := by
  have hrefusal : s.live.refusal (needsInit i) = s.refusal (needsInit i) := rfl
  rw [exec_hostCommand hi, exec_hostCommand hi]
  unfold runCommand
  rw [hrefusal]
  cases hr : s.refusal (needsInit i)
  case some st => exact liveOutcome_next (answer_live _ s)
  case none => exact liveOutcome_next (commandBody_live hi ((refusal_eq_none_iff _ s).1 hr).2)

theorem quiet_live (aux : Level) (s : State) : liveOutcome (s.live.quiet aux) = liveOutcome (s.quiet aux) := by
  unfold quiet
  rw [live_busy]
  cases hb : s.busy
  · exact liveOutcome_next s.live_live
  · have hrow := row_live aux hb
    cases hl : s.live.row aux <;> cases hr : s.row aux <;>
      simp only [hl, hr, Option.map_none, Option.map_some, reduceCtorEq, Option.some.injEq] at hrow
    · rfl
    · exact liveOutcome_next hrow

/-- Two states that agree in what is still to be read step to two such states, or stop alike. -/
theorem step_congr {s u : State} (h : s.live = u.live) : liveOutcome (step s) = liveOutcome (step u) := by
  have hhost : s.host = u.host := eq_of_live_eq live_host h
  have hstart : s.stepStart.live = u.stepStart.live := eq_of_live_eq (f := fun s => s.stepStart.live) stepStart_live h
  have hwaits (w : Bool) : { s.stepStart with hostWaits := w }.live = { u.stepStart with hostWaits := w }.live :=
    congrArg (fun v : State => { v with hostWaits := w }) hstart
  have hadmits (i : Instr) : s.stepStart.admits i = u.stepStart.admits i := eq_of_live_eq (f := admits i) (fun _ => rfl) hstart
  have hquiet (aux : Level) : liveOutcome (s.stepStart.quiet aux) = liveOutcome (u.stepStart.quiet aux) :=
    eq_of_live_eq (f := fun v => liveOutcome (v.quiet aux)) (quiet_live aux) hstart
  unfold step
  rw [hhost, draw_congr h]
  split
  next p w _ =>
    split
    next i hd =>
      rw [hadmits]
      split
      · exact eq_of_live_eq (f := fun v => liveOutcome (exec i v)) (exec_live (isHostCommand_of_decode hd)) (hwaits w)
      · rfl
    next =>
      exact liveOutcome_next (eq_of_live_eq (f := fun v => (v.refuse .illegalCommand).live) (answer_live _) (hwaits w))
  next => exact congrArg Host.Outcome.next (congrArg live (eq_of_live_eq (f := resetBlock) resetBlock_live hstart))
  next => exact hquiet _
  next => exact hquiet _

theorem isHostCommand_of_mem {i : Instr} {m : Mode} {c : Configuration} {b : Block} {text : List Byte}
    (hi : i ∈ [Instr.init, .getMode, .setMode m, .encode c, .decode b, .cfgRead, .cfgWrite c, .lineSend text, .lineRecv]) :
    isHostCommand i = true := by
  simp only [List.mem_cons, List.not_mem_nil, or_false] at hi
  rcases hi with rfl | rfl | rfl | rfl | rfl | rfl | rfl | rfl | rfl <;> rfl

/-- In an idle block the transition's elements, the clocks and the latches are dead, and before INIT the mode and the pins too. -/
theorem liveCopy_of_idle {s t : State} (hb : s.busy = false) (hq : s.seq = .idle) (hp : s.phase = .idle) (hv : s.rspValid = false)
    (hmode : s.inited = true → s.SameMode t) (hothers : s.SameSpecified t) : s.LiveCopy t where
  mode h := (hmode h).mode
  msA h := (hmode h).msA
  msB h := (hmode h).msB
  target := by simp [hp, Phase.readsTarget]
  tmr := by simp [hp, Phase.readsTmr]
  t0 := by simp [hp, Phase.readsT0]
  ft0 := by simp [hq]
  cmdl := by simp [hb]
  cfgl := by simp [cfglLive, hb]
  blkl := by simp [blklLive, hb]
  rsp := by simp [hv]
  others := hothers

/-- Settles O58: what is dead at idle is outside `live`, what the host and the module see is inside, and steps and commands cannot tell
a state from its live part (`step_congr`, `exec_live`). -/
theorem whatIsDeadReachesNothing : Obligations.WhatIsDeadReachesNothing := by
  refine ⟨?_, ?_, ?_, ?_⟩
  · intro tg x y z cl cf bl r s hb hq hp hv
    refine ⟨LiveCopy.live_eq (liveCopy_of_idle hb hq hp hv (fun _ => ⟨rfl, rfl, rfl, rfl⟩) rfl), fun hi m a b => ?_⟩
    exact LiveCopy.live_eq (liveCopy_of_idle hb hq hp hv (by simp [hi]) rfl)
  · intro s u h
    have hv : s.rspValid = u.rspValid := eq_of_live_eq live_rspValid h
    refine ⟨eq_of_live_eq live_now h, eq_of_live_eq live_txlog h, eq_of_live_eq live_rxbuf h, eq_of_live_eq live_pins h,
      eq_of_live_eq live_busy h, eq_of_live_eq live_inited h, eq_of_live_eq live_warn h, eq_of_live_eq live_err h,
      eq_of_live_eq live_errBytes h, hv, fun hs => ?_⟩
    rw [← live_rsp hs, h, live_rsp (hv ▸ hs)]
  · exact fun s t u h hstep => exists_next_of_liveOutcome_eq (step_congr h) hstep
  · intro m c b text s t u h i hi hexec
    have hlive := eq_of_live_eq (f := fun v => liveOutcome (exec i v)) (exec_live (isHostCommand_of_mem hi)) h
    exact exists_next_of_liveOutcome_eq hlive hexec

end Sys2Proof.Machine.State
end

section
/-! SUPPORT. INIT from any idle block: the run comes to its response whatever the parameters are, as long as POLL_MS is at least 1, and
neither a pulse of the step before nor an unspecified reset value reaches it. -/

namespace Sys2Proof.Machine.State

/-! ### A run whose parameters need not be in range -/

theorem transitionRow_timed (aux : Level) {s : State} (hq : s.seq = .enter ∨ s.seq = .exit) (hp : s.phase ≠ .idle) (h : s.Timed) :
    (s.transitionRow aux).Timed := by
  obtain ⟨hpoll, hready, -⟩ := h
  refine ⟨by simpa using hpoll, ?_, fun hrx => by rcases hq with q | q <;> simp [q] at hrx⟩
  rcases transitionRow_cases aux s hp with
    ⟨_, _, e⟩ | ⟨_, _, e⟩ | ⟨_, e⟩ | ⟨_, _, e⟩ | ⟨_, _, e⟩ | ⟨_, e⟩ | ⟨_, _, e⟩ | ⟨_, _, _, e⟩ | ⟨_, _, _, e⟩ | ⟨_, _, e⟩ |
    ⟨_, _, e⟩ <;> rw [e] <;> simp_all
  omega

theorem RowTo.timed {s t : State} (r : s.RowTo t) (he : s.ErrorsMatch) (h : s.Timed) : t.Timed := by
  cases r
  case transition hq hp => exact transitionRow_timed _ hq hp h
  all_goals obtain ⟨hpoll, hready, hframe⟩ := h
  case wait hp _ => exact ⟨hpoll, by simp [hp], fun hrx => (hframe hrx).trans (by simp)⟩
  case respond =>
    rw [he.present_eq_respond]
    exact ⟨hpoll, hready, by simp⟩
  all_goals exact ⟨by simpa using hpoll, by simp [*], by simp⟩

/-- A run to the response in which the bound falls: of the clocks it needs only what the bound reads. -/
structure TimedRun (s : State) : Prop where
  errors    : s.ErrorsMatch
  sequencer : s.SequencerLegal
  timed     : s.Timed

theorem TimedRun.advance {s t : State} (h : s.TimedRun) (ha : s.advance = some t) : t.TimedRun :=
  have r : s.envStep.RowTo t := rowTo_of_row ha
  have he : s.envStep.ErrorsMatch := envStep_errorsMatch h.errors
  ⟨r.errorsMatch he, r.sequencerLegal he (envStep_sequencerLegal h.sequencer), r.timed he (envStep_timed h.timed)⟩

/-- A command in flight takes a step, which brings its response nearer. -/
theorem TimedRun.exists_advance {s : State} (h : s.TimedRun) (hb : s.busy = true) :
    ∃ t, s.advance = some t ∧ t.TimedRun ∧ t.work < s.work := by
  obtain ⟨t, ha⟩ := (envStep_sequencerLegal h.sequencer).exists_row s.draw.aux hb
  exact ⟨t, ha, h.advance ha, advance_work_lt h.timed h.errors.noRefusal ha⟩

/-! ### The pulse of an earlier response -/

/-- The state with the response pulse ended (R26). -/
def mute (s : State) : State := { s with rspValid := false }

theorem transitionRow_mute (aux : Level) (s : State) : s.mute.transitionRow aux = (s.transitionRow aux).mute := by
  by_cases hp : s.phase = .idle
  · have hp' : s.mute.phase = .idle := hp
    simp [transitionRow, hp, hp']
  · rcases transitionRow_cases aux s hp with
      ⟨q, h, e⟩ | ⟨q, h, e⟩ | ⟨q, e⟩ | ⟨q, h, e⟩ | ⟨q, h, e⟩ | ⟨q, e⟩ | ⟨q, h, e⟩ | ⟨q, h, h', e⟩ | ⟨q, h, h', e⟩ | ⟨q, h, e⟩ |
      ⟨q, h, e⟩ <;> rw [e] <;> simp [transitionRow, mute, *] <;> rfl

theorem readResponseRow_mute (s : State) : s.mute.readResponseRow = s.readResponseRow.mute := by
  have hlook : s.mute.readLook readResponseLen = s.readLook readResponseLen := rfl
  unfold readResponseRow
  rw [hlook]
  cases s.readLook readResponseLen <;> rfl

theorem readAckRow_mute (s : State) : s.mute.readAckRow = s.readAckRow.mute := by
  have hlook : s.mute.readLook writeAckLen = s.readLook writeAckLen := rfl
  unfold readAckRow
  rw [hlook]
  cases s.readLook writeAckLen <;> rfl

theorem encodeRecord_mute (cfg : Configuration) (s : State) : s.mute.encodeRecord cfg = (s.encodeRecord cfg).mute := by
  unfold encodeRecord
  split <;> rfl

/-- No row but the response reads or writes the pulse. -/
theorem row_mute (aux : Level) {s : State} (hq : s.seq ≠ .respond) : s.mute.row aux = (s.row aux).map mute := by
  have hseq : s.mute.seq = s.seq := rfl
  cases hs : s.seq
  case respond => exact absurd hs hq
  case idle => simp only [row, hseq, hs, Option.map_none]
  all_goals
    simp only [row, hseq, hs, transitionRow_mute, encodeRecord_mute, readResponseRow_mute, readAckRow_mute,
      apply_ite (Option.map mute), Option.map_some, Option.map_none]
    rfl

/-- The response starts its pulse whether or not one stands. -/
theorem row_mute_of_respond (aux : Level) {s : State} (hq : s.seq = .respond) (he : s.ErrorsMatch) : s.mute.row aux = s.row aux := by
  have hseq : s.mute.seq = .respond := hq
  have he' : s.mute.ErrorsMatch := he.congr rfl rfl rfl
  simp only [row, hseq, hq, he.present_eq_respond, he'.present_eq_respond]
  rfl

theorem RowTo.busy_of_seq_ne_respond {s t : State} (r : s.RowTo t) (hq : s.seq ≠ .respond) : t.busy = s.busy := by
  cases r
  case respond h _ => exact absurd h hq
  all_goals simp

theorem RowTo.eq_respond {s t : State} (r : s.RowTo t) (hq : s.seq = .respond) (he : s.ErrorsMatch) : t = s.respond s.err := by
  cases r
  case respond => exact he.present_eq_respond
  all_goals simp_all

/-- A run that comes to its response does so whether or not a pulse stands at its start. -/
theorem TimedRun.runSteps_mute {n : Nat} {s : State} (h : s.TimedRun) (hb : s.busy = true) (hw : s.work ≤ n) :
    s.mute.runSteps n = s.runSteps n ∧ (s.runSteps n).rspValid = true := by
  obtain ⟨t, ha, ht, hlt⟩ := h.exists_advance hb
  have hrow : s.envStep.row s.draw.aux = some t := ha
  induction n generalizing s t with
  | zero => omega
  | succ n ih =>
    have he : s.envStep.ErrorsMatch := envStep_errorsMatch h.errors
    by_cases hq : s.seq = .respond
    · have hmute : s.mute.advance = some t := (row_mute_of_respond s.draw.aux (s := s.envStep) hq he).trans hrow
      have hend : t = s.envStep.respond s.err := (rowTo_of_row hrow).eq_respond hq he
      rw [runSteps_succ n hb ha, runSteps_succ (s := s.mute) n hb hmute, runSteps_idle n (by simp [hend])]
      exact ⟨rfl, by simp [hend]⟩
    · have hmute : s.mute.advance = some t.mute := (row_mute s.draw.aux (s := s.envStep) hq).trans (by rw [hrow, Option.map_some])
      have htb : t.busy = true := ((rowTo_of_row hrow).busy_of_seq_ne_respond hq).trans hb
      obtain ⟨v, hv, hvrun, hvlt⟩ := ht.exists_advance htb
      rw [runSteps_succ n hb ha, runSteps_succ (s := s.mute) n hb hmute]
      exact ih ht htb (by omega) v hv hvrun hvlt hv

/-! ### INIT -/

/-- INIT puts an idle block at the start of a run (R129). -/
theorem start_codeInit_timedRun {s : State} (h : 1 ≤ s.par.pollMs) : (s.start codeInit).TimedRun := by
  refine ⟨⟨rfl, ?_, ?_, rfl⟩, ?_, ⟨h, ?_, ?_⟩⟩
  case refine_3 => constructor <;> simp [Seq.isExchange]
  all_goals simp

/-- Two blocks that differ in what is unspecified before INIT differ, once INIT is accepted, in what is dead and in the pulse (R30). -/
theorem start_codeInit_liveCopy {s u : State} (hi : s.inited = false) (hu : s.SameSpecified u) :
    (s.start codeInit).mute.LiveCopy (u.start codeInit).mute where
  mode h := absurd (hi.symm.trans h) (by decide)
  msA h := absurd (hi.symm.trans h) (by decide)
  msB h := absurd (hi.symm.trans h) (by decide)
  target _ := rfl
  tmr _ := congrArg (·.par.settleMs) hu
  t0 := by simp [mute, Phase.readsT0]
  ft0 := by simp [mute]
  cmdl _ := rfl
  cfgl := by simp [mute, cfglLive, codeInit, codeCfgWrite]
  blkl := by simp [mute, blklLive]
  rsp := by simp [mute]
  others := by rw [hu]; rfl

/-- Where the host waits, INIT's answer does not depend on what is unspecified before it (R30, R129). -/
theorem init_congr {s u : State} (hi : s.inited = false) (hs : s.Serialised) (hu : s.SameSpecified u) :
    (s.start codeInit).drive.live = (u.start codeInit).drive.live ∧ (s.start codeInit).drive.rspValid = true := by
  have hpoll : 1 ≤ u.par.pollMs := by rw [hu]; exact hs.poll
  have hwaits : (u.start codeInit).hostWaits = true := by rw [hu]; exact hs.waits
  have hcopy : (u.start codeInit).mute.live = (s.start codeInit).mute.live := (start_codeInit_liveCopy hi hu).live_eq
  have hwork : (u.start codeInit).mute.work = (s.start codeInit).mute.work := eq_of_live_eq live_work hcopy
  obtain ⟨hmute, hvalid⟩ := (start_codeInit_timedRun hs.poll).runSteps_mute rfl le_rfl
  obtain ⟨hmute', -⟩ := (start_codeInit_timedRun hpoll).runSteps_mute rfl le_rfl
  have hdrive : (s.start codeInit).drive = (s.start codeInit).runSteps (s.start codeInit).work := if_pos hs.waits
  have hdrive' : (u.start codeInit).drive = (u.start codeInit).runSteps (u.start codeInit).work := if_pos hwaits
  refine ⟨?_, hdrive ▸ hvalid⟩
  rw [hdrive, hdrive', ← hmute', ← hmute]
  exact (congrArg (fun n => ((s.start codeInit).mute.runSteps n).live) hwork).symm.trans (runSteps_congr _ hcopy.symm)

/-- Before INIT every other command is answered at once, with a response that only its operand decides (R100, R101, R185). -/
theorem exec_before_init {i : Instr} (h : isHostCommand i = true) (hne : i ≠ .init) :
    ∃ r : Response, ∀ s : State, s.busy = false → s.inited = false → exec i s = .next (s.answer r) := by
  cases hn : needsInit i
  case true =>
    exact ⟨Response.bare .notInitialised, fun s hb hi => by simp [exec_hostCommand h, runCommand, hn, refusal, hb, hi, refuse]⟩
  case false =>
    cases i
    case init => exact absurd rfl hne
    case encode | decode => exact ⟨_, fun s hb _ => exec_of_accepted h hb (by simp [hn])⟩
    all_goals cases hn

/-- What the host and the module see of a command's answer is the same. -/
abbrev SameAnswer (t u : State) : Prop :=
  t.rsp = u.rsp ∧ t.rspValid = u.rspValid ∧ t.txlog = u.txlog ∧ t.rxbuf = u.rxbuf ∧ t.now = u.now ∧ t.busy = u.busy ∧
  t.inited = u.inited ∧ (t.inited = true → t.mode = u.mode ∧ t.pins = u.pins)

theorem sameAnswer_answer {s u : State} (r : Response) (hi : s.inited = false) (hu : s.SameSpecified u) :
    SameAnswer (s.answer r) (u.answer r) := by
  rw [hu]
  exact ⟨rfl, rfl, rfl, rfl, rfl, rfl, rfl, by simp [hi]⟩

theorem sameAnswer_of_live_eq {t u : State} (h : t.live = u.live) (hv : t.rspValid = true) : SameAnswer t u := by
  have hvalid : t.rspValid = u.rspValid := eq_of_live_eq live_rspValid h
  have hinited : t.inited = u.inited := eq_of_live_eq live_inited h
  refine ⟨?_, hvalid, eq_of_live_eq live_txlog h, eq_of_live_eq live_rxbuf h, eq_of_live_eq live_now h, eq_of_live_eq live_busy h,
    hinited, fun hi => ⟨?_, eq_of_live_eq live_pins h⟩⟩
  · rw [← live_rsp hv, h, live_rsp (hvalid ▸ hv)]
  · rw [← live_mode hi, h, live_mode (hinited ▸ hi)]

/-- INIT's run cannot tell the two blocks apart, and every other command answers by its operand alone. -/
theorem sameAnswer_before_init {i : Instr} {s v t u : State} (h : isHostCommand i = true) (hb : s.busy = false)
    (hi : s.inited = false) (hs : s.Serialised) (hv : s.SameSpecified v) (ht : exec i s = .next t) (hu : exec i v = .next u) :
    SameAnswer t u := by
  have hb' : v.busy = false := (congrArg State.busy hv).trans hb
  have hi' : v.inited = false := (congrArg State.inited hv).trans hi
  by_cases hinit : i = .init
  · subst hinit
    cases (exec_of_accepted h hb (by simp [needsInit])).symm.trans ht
    cases (exec_of_accepted h hb' (by simp [needsInit])).symm.trans hu
    obtain ⟨hlive, hvalid⟩ := init_congr hi hs hv
    exact sameAnswer_of_live_eq hlive hvalid
  · obtain ⟨r, hr⟩ := exec_before_init h hinit
    cases (hr s hb hi).symm.trans ht
    cases (hr v hb' hi').symm.trans hu
    exact sameAnswer_answer r hi hv

/-- Settles O53: the two blocks of the statement differ in unspecified elements only (`sameAnswer_before_init`). -/
theorem unspecifiedResetValuesDoNotMatter : Obligations.UnspecifiedResetValuesDoNotMatter := by
  intro i m tg a b x y z cl cf bl r c tm blk text s t u hmem hb hi hs ht hu
  exact sameAnswer_before_init (isHostCommand_of_mem hmem) hb hi hs rfl ht hu

end Sys2Proof.Machine.State
end

section
/-! SUPPORT. The request frames, and the rows S_RX of the two configuration commands: what `UartReadExact` sees in each case of R48 and
what the row makes of it. -/

namespace Sys2Proof.Machine.State

/-- Settles O22: both frames go out through `sendFrame`, whose effect is the one stated. -/
theorem requestFramesGoOut : Obligations.RequestFramesGoOut := fun _ _ => ⟨rfl, rfl⟩

/-! ### What a look at RXBUF sees -/

/-- Enough bytes are a success, at the deadline too (R48). -/
theorem readLook_eq_done {n : Nat} {s : State} {head rest : List Byte} (hlen : head.length = n) (hr : s.rxbuf = head ++ rest) :
    s.readLook n = .done head := by
  subst hlen
  simp [readLook, hr]

/-- Some bytes, but too few, are a ShortRead at the deadline (R48). -/
theorem readLook_eq_short {n : Nat} {s : State} (hpos : 0 < s.rxbuf.length) (hlen : s.rxbuf.length < n)
    (ht : s.par.frameTimeoutMs ≤ s.now - s.ft0) : s.readLook n = .short s.rxbuf := by
  rw [readLook, if_neg (Nat.not_le.2 hlen), if_pos ht]
  cases hr : s.rxbuf with
  | nil => simp [hr] at hpos
  | cons b bs => rfl

/-- No byte at the deadline is a TransportTimeout (R48, R182). -/
theorem readLook_eq_empty {n : Nat} {s : State} (hn : 0 < n) (hr : s.rxbuf = []) (ht : s.par.frameTimeoutMs ≤ s.now - s.ft0) :
    s.readLook n = .empty := by
  simp [readLook, hr, ht, Nat.pos_iff_ne_zero.1 hn]

/-- Before the deadline too few bytes are waited on (R48). -/
theorem readLook_eq_waiting {n : Nat} {s : State} (hlen : s.rxbuf.length < n) (ht : s.now - s.ft0 < s.par.frameTimeoutMs) :
    s.readLook n = .waiting := by
  rw [readLook, if_neg (Nat.not_le.2 hlen), if_neg (Nat.not_le.2 ht)]

theorem takeBytes_append {n : Nat} {s : State} {head rest : List Byte} (hlen : head.length = n) (hr : s.rxbuf = head ++ rest) :
    s.takeBytes n = { s with rxbuf := rest } := by
  subst hlen
  simp [takeBytes, hr]

theorem uartDrain_of_empty {s : State} (hr : s.rxbuf = []) : s.uartDrain = s := by
  rw [uartDrain, ← hr]

/-! ### The rows S_RX -/

theorem row_of_cfgRead_rx (aux : Level) {s : State} (hq : s.seq = .rx) (hp : s.phase = .idle) (hc : s.cmdl = codeCfgRead) :
    s.row aux = some s.readResponseRow := by
  simp [row, hq, hp, hc]

theorem row_of_cfgWrite_rx (aux : Level) {s : State} (hq : s.seq = .rx) (hp : s.phase = .idle) (hc : s.cmdl = codeCfgWrite) :
    s.row aux = some s.readAckRow := by
  simp [row, hq, hp, hc]

/-- The read response is eleven bytes, the last eight of them the register block (R51, R52). -/
theorem readResponseRow_eq_received {s : State} {head rest : List Byte} (hlen : head.length = 11) (hr : s.rxbuf = head ++ rest) :
    s.readResponseRow = { s with rxbuf := rest, blkl := Block.ofBytes (head.drop 3), seq := .decode } := by
  rw [readResponseRow, readLook_eq_done (n := readResponseLen) hlen hr, takeBytes_append (n := readResponseLen) hlen hr]
  rfl

end Sys2Proof.Machine.State

namespace Sys2Proof.Machine

open State

/-- Settles O26: each clause is one of the four looks of R48. -/
theorem readResponseRow : Obligations.ReadResponseRow := by
  intro aux s hq hp hc
  rw [row_of_cfgRead_rx aux hq hp hc]
  refine ⟨fun head rest hlen hr => ?_, fun hpos hlen ht => ?_, fun hr ht => ?_, fun hlen ht => ?_⟩
  · rw [readResponseRow_eq_received hlen hr]
  · rw [State.readResponseRow, readLook_eq_short (n := readResponseLen) hpos hlen ht]
    rfl
  · rw [State.readResponseRow, readLook_eq_empty (by decide) hr ht, uartDrain_of_empty hr]
    rfl
  · rw [State.readResponseRow, readLook_eq_waiting (n := readResponseLen) hlen ht]
    rfl

/-- Settles O27: each clause is one of the four looks of R48; the bytes of the acknowledgement are looked at by none. -/
theorem readAcknowledgementRow : Obligations.ReadAcknowledgementRow := by
  intro aux s hq hp hc
  rw [row_of_cfgWrite_rx aux hq hp hc]
  refine ⟨fun head rest hlen hr => ?_, fun hpos hlen ht => ?_, fun hr ht => ?_, fun hlen ht => ?_⟩
  · rw [State.readAckRow, readLook_eq_done (n := writeAckLen) hlen hr, takeBytes_append (n := writeAckLen) hlen hr]
    rfl
  · rw [State.readAckRow, readLook_eq_short (n := writeAckLen) hpos hlen ht]
    rfl
  · rw [State.readAckRow, readLook_eq_empty (by decide) hr ht, uartDrain_of_empty hr]
    rfl
  · rw [State.readAckRow, readLook_eq_waiting (n := writeAckLen) hlen ht]
    rfl

end Sys2Proof.Machine
end

section
/-! SUPPORT. A run whose acts of the environment take no time: its delays, its transitions up to the ready-wait, and the exchange of a
CFG_READ whose response arrives at once. -/

namespace Sys2Proof.Machine.State

/-! ### Runs and acts that take no time -/

theorem runSteps_of_advance_none (n : Nat) {s : State} (h : s.advance = none) : s.runSteps n = s := by
  cases n <;> simp [runSteps, h]

/-- A run goes on where an earlier run has ended. -/
theorem runSteps_add (m n : Nat) (s : State) : s.runSteps (m + n) = (s.runSteps m).runSteps n := by
  induction m generalizing s with
  | zero => rw [Nat.zero_add, runSteps_zero]
  | succ m ih =>
    cases hb : s.busy
    · simp only [runSteps_idle _ hb]
    · cases ha : s.advance with
      | none => simp only [runSteps_of_advance_none _ ha]
      | some t => rw [Nat.succ_add, runSteps_succ _ hb ha, runSteps_succ _ hb ha, ih]

/-- `bytes` arrive in no time, and `rest` are the acts that stay listed (R50, R128). -/
def arrive (bytes : List Byte) (rest : List EnvAct) (s : State) : State :=
  { s with rxbuf := s.rxbuf ++ bytes, env := rest, draws := s.draws + 1 }

theorem envStep_eq_arrive {e : EnvAct} {rest : List EnvAct} {s : State} (henv : s.env = e :: rest) (hdt : e.dt = 0) :
    s.envStep = s.arrive e.arrive rest := by
  rw [envStep_eq (draw_of_listed henv) (congrArg List.tail henv), hdt]
  rfl

/-- One step of a run in which no time passes before the row. -/
theorem runSteps_succ_of_arrive (n : Nat) {e : EnvAct} {rest : List EnvAct} {s t : State} (hb : s.busy = true)
    (henv : s.env = e :: rest) (hdt : e.dt = 0) (hrow : (s.arrive e.arrive rest).row e.aux = some t) :
    s.runSteps (n + 1) = t.runSteps n := by
  refine runSteps_succ n hb ?_
  rw [advance, envStep_eq_arrive henv hdt, draw_of_listed henv, hrow]

theorem row_of_transition (aux : Level) {s : State} (hq : s.seq = .enter ∨ s.seq = .exit) (hp : s.phase ≠ .idle) :
    s.row aux = some (s.transitionRow aux) := by
  rcases hq with q | q <;> simp [row, q, hp]

/-- One step of a run inside a transition in which no time passes before the row. -/
theorem runSteps_succ_of_transition (n : Nat) {e : EnvAct} {rest : List EnvAct} {s t : State} (hb : s.busy = true)
    (hq : s.seq = .enter ∨ s.seq = .exit) (hp : s.phase ≠ .idle) (henv : s.env = e :: rest) (hdt : e.dt = 0)
    (hrow : (s.arrive e.arrive rest).transitionRow e.aux = t) : s.runSteps (n + 1) = t.runSteps n := by
  subst hrow
  exact runSteps_succ_of_arrive n hb henv hdt (row_of_transition e.aux hq hp)

/-! ### Rows of a transition -/

/-- The phase in which the end of a delay leaves a transition (R127). -/
def afterDelay : Phase → Phase
  | .settle1 => .apply
  | .settle2 => .drain
  | .pollWait => .poll
  | p => p

theorem transitionRow_of_delay_over (aux : Level) {s : State} (hp : s.phase.readsTmr = true) (ht : s.tmr = 0) :
    s.transitionRow aux = { s with phase := afterDelay s.phase } := by
  cases h : s.phase <;> simp [h, Phase.readsTmr] at hp <;> simp [transitionRow, h, ht, afterDelay]

theorem transitionRow_of_delay (aux : Level) {s : State} (hp : s.phase.readsTmr = true) (ht : s.tmr ≠ 0) :
    s.transitionRow aux = s.pass 1 := by
  cases h : s.phase <;> simp [h, Phase.readsTmr] at hp <;> simp [transitionRow, h, ht]

theorem transitionRow_of_apply (aux : Level) {s : State} (hp : s.phase = .apply) : s.transitionRow aux = s.applyMode s.target := by
  simp [transitionRow, hp]

theorem transitionRow_of_drain (aux : Level) {s : State} (hp : s.phase = .drain) :
    s.transitionRow aux = { s with rxbuf := [], t0 := s.now, phase := .poll } := by
  simp [transitionRow, hp, uartDrain]

theorem transitionRow_of_ready {s : State} (hp : s.phase = .poll) : s.transitionRow .low = { s with phase := .idle } := by
  simp [transitionRow, hp]

/-! ### Delays and transitions -/

/-- A delay lasts exactly what TMR says where nothing but its ticks takes time, and one row more ends it (R127, R128). -/
theorem runSteps_delay {d : Nat} {acts rest : List EnvAct} {s : State} (hb : s.busy = true) (hq : s.seq = .enter ∨ s.seq = .exit)
    (hp : s.phase.readsTmr = true) (ht : s.tmr = d) (henv : s.env = acts ++ rest) (hlen : acts.length = d + 1)
    (hdt : ∀ e ∈ acts, e.dt = 0) :
    s.runSteps (d + 1) = { s with
      phase := afterDelay s.phase, tmr := 0, now := s.now + d, rxbuf := s.rxbuf ++ acts.flatMap EnvAct.arrive, env := rest,
      draws := s.draws + (d + 1) } := by
  have hne : s.phase ≠ .idle := by rintro h; simp [h, Phase.readsTmr] at hp
  induction d generalizing s acts with
  | zero =>
    obtain ⟨e, rfl⟩ := List.length_eq_one_iff.1 hlen
    rw [runSteps_succ_of_transition 0 hb hq hne henv (hdt e (by simp)) (transitionRow_of_delay_over e.aux hp ht)]
    simp [arrive, ht]
  | succ d ih =>
    obtain ⟨e, acts, rfl⟩ := List.exists_cons_of_length_eq_add_one hlen
    have htick : (s.arrive e.arrive (acts ++ rest)).tmr ≠ 0 := ht.trans_ne (by simp)
    have htmr : ((s.arrive e.arrive (acts ++ rest)).pass 1).tmr = d := by simp [arrive, ht]
    rw [runSteps_succ_of_transition _ hb hq hne henv (hdt e (by simp)) (transitionRow_of_delay e.aux hp htick)]
    refine Eq.trans (ih hb hq hp htmr rfl (by simpa using hlen) (fun x hx => hdt x (by simp [hx])) hne) ?_
    simp [arrive, pass]
    omega

/-- A list of two lengths is a list of the first and one of the second. -/
theorem exists_append_of_length_eq_add {α : Type} {l : List α} {m n : Nat} (h : l.length = m + n) :
    ∃ l₁ l₂, l = l₁ ++ l₂ ∧ l₁.length = m ∧ l₂.length = n :=
  ⟨l.take m, l.drop m, (List.take_append_drop m l).symm, by simp [h], by simp [h]⟩

/-- A transition from its request to its ready-wait takes its two settle delays; the bytes that arrived before its drain are gone
(R121 to R124, R127, R128). -/
theorem runSteps_to_poll {d : Nat} {acts rest : List EnvAct} {s : State} (hb : s.busy = true)
    (hq : s.seq = .enter ∨ s.seq = .exit) (hp : s.phase = .settle1) (hd : s.par.settleMs = d) (ht : s.tmr = d)
    (henv : s.env = acts ++ rest) (hlen : acts.length = 2 * d + 4) (hdt : ∀ e ∈ acts, e.dt = 0) :
    s.runSteps (2 * d + 4) = { s with
      phase := .poll, mode := s.target, msA := s.target.lineA, msB := s.target.lineB, inited := true, tmr := 0,
      t0 := s.now + 2 * d, now := s.now + 2 * d, rxbuf := [], env := rest, draws := s.draws + (2 * d + 4) } := by
  have hsteps : 2 * d + 4 = (d + 1) + ((d + 1) + 1 + 1) := by omega
  rw [hsteps] at hlen ⊢
  obtain ⟨acts₁, tail, rfl, hlen₁, htail⟩ := exists_append_of_length_eq_add hlen
  obtain ⟨applyAct, tail, rfl⟩ := List.exists_cons_of_length_eq_add_one htail
  obtain ⟨acts₂, last, rfl, hlen₂, hlast⟩ := exists_append_of_length_eq_add (m := d + 1) (n := 1) (Nat.succ.inj htail)
  obtain ⟨drainAct, rfl⟩ := List.length_eq_one_iff.1 hlast
  simp only [List.append_assoc, List.cons_append, List.nil_append] at henv
  simp only [List.forall_mem_append, List.forall_mem_cons] at hdt
  obtain ⟨hdt₁, hdtApply, hdt₂, hdtDrain, -⟩ := hdt
  rw [runSteps_add, runSteps_delay hb hq (by simp [hp, Phase.readsTmr]) ht henv hlen₁ hdt₁, hp]
  refine Eq.trans (runSteps_succ_of_transition _ hb hq (by simp [afterDelay]) rfl hdtApply (transitionRow_of_apply applyAct.aux rfl)) ?_
  rw [runSteps_add (d + 1) 1, runSteps_delay (by exact hb) (by exact hq) rfl hd rfl hlen₂ hdt₂]
  refine Eq.trans (runSteps_succ_of_transition 0 hb hq (by simp [afterDelay]) rfl hdtDrain (transitionRow_of_drain drainAct.aux rfl)) ?_
  simp [arrive, applyMode]
  omega

/-- A transition whose ready-wait finds AUX low at its first sample is over at once after its two settle delays, without a warning
(R125, R127, R133). -/
theorem runSteps_ready_transition {d : Nat} {acts rest : List EnvAct} {e : EnvAct} {s : State} (hb : s.busy = true)
    (hq : s.seq = .enter ∨ s.seq = .exit) (hp : s.phase = .settle1) (hd : s.par.settleMs = d) (ht : s.tmr = d)
    (henv : s.env = acts ++ e :: rest) (hlen : acts.length = 2 * d + 4) (hdt : ∀ x ∈ acts, x.dt = 0) (he : e.dt = 0)
    (haux : e.aux = .low) :
    s.runSteps (2 * d + 5) = { s with
      phase := .idle, mode := s.target, msA := s.target.lineA, msB := s.target.lineB, inited := true, tmr := 0,
      t0 := s.now + 2 * d, now := s.now + 2 * d, rxbuf := e.arrive, env := rest, draws := s.draws + (2 * d + 5) } := by
  rw [runSteps_add (2 * d + 4) (0 + 1), runSteps_to_poll hb hq hp hd ht henv hlen hdt]
  refine Eq.trans (runSteps_succ_of_transition 0 hb hq (by simp) rfl he (haux ▸ transitionRow_of_ready rfl)) ?_
  simp [arrive, Nat.add_assoc]

/-! ### The rows of CFG_READ -/

theorem row_of_cfgRead_enter (aux : Level) {s : State} (hq : s.seq = .enter) (hp : s.phase = .idle) (hc : s.cmdl = codeCfgRead) :
    s.row aux = some { s with seq := .tx } := by
  simp [row, hq, hp, hc]

theorem row_of_cfgRead_tx (aux : Level) {s : State} (hq : s.seq = .tx) (hp : s.phase = .idle) (hc : s.cmdl = codeCfgRead) :
    s.row aux = some (s.sendFrame readRequest) := by
  simp [row, hq, hp, hc]

/-- Eleven buffered bytes end the frame wait, the last eight of them the register block (R48, R52). -/
theorem row_of_cfgRead_received (aux : Level) {s : State} (hq : s.seq = .rx) (hp : s.phase = .idle) (hc : s.cmdl = codeCfgRead)
    (hlen : s.rxbuf.length = 11) :
    s.row aux = some { s with rxbuf := [], blkl := Block.ofBytes (s.rxbuf.drop 3), seq := .decode } := by
  rw [row_of_cfgRead_rx aux hq hp hc, readResponseRow_eq_received hlen (List.append_nil _).symm]

theorem row_of_decode (aux : Level) {s : State} (hq : s.seq = .decode) (hp : s.phase = .idle) (hc : s.cmdl = codeCfgRead) :
    s.row aux = some (s.decodeBlock s.blkl) := by
  simp [row, hq, hp, hc]

theorem row_of_exit (aux : Level) {s : State} (hq : s.seq = .exit) (hp : s.phase = .idle) (hc : isConfigCommand s.cmdl = true) :
    s.row aux = some { s with seq := .respond } := by
  simp [row, hq, hp, hc]

theorem row_of_respond (aux : Level) {s : State} (hq : s.seq = .respond) (hp : s.phase = .idle) (he : s.err.isRefusal = false) :
    s.row aux = some (s.respond s.err) := by
  simp [row, hq, hp, present, he]

/-! ### A CFG_READ that is answered at once -/

/-- The environment's act in which no time passes, nothing arrives and AUX is low (R128, R133). -/
abbrev quietAct : EnvAct := ⟨0, [], .low⟩

/-- The exchange of a CFG_READ whose eleven bytes are there at the first look (R51, R52, R153). -/
theorem runSteps_exchange {bytes : List Byte} {rest : List EnvAct} {s : State} (hb : s.busy = true) (hq : s.seq = .enter)
    (hp : s.phase = .idle) (hc : s.cmdl = codeCfgRead) (hr : s.rxbuf = []) (hlen : bytes.length = 11)
    (henv : s.env = quietAct :: quietAct :: ⟨0, bytes, .low⟩ :: quietAct :: rest) :
    s.runSteps 4 = { s with
      seq := .exit, phase := .settle1, target := .normal, tmr := s.par.settleMs, ft0 := s.now, txlog := s.txlog ++ readRequest,
      blkl := Block.ofBytes (bytes.drop 3), cfgl := unpack (Block.ofBytes (bytes.drop 3)), env := rest, draws := s.draws + 4 } := by
  refine Eq.trans (runSteps_succ_of_arrive 3 hb henv rfl (row_of_cfgRead_enter .low hq hp hc)) ?_
  refine Eq.trans (runSteps_succ_of_arrive 2 hb rfl rfl (row_of_cfgRead_tx .low rfl hp hc)) ?_
  refine Eq.trans (runSteps_succ_of_arrive 1 hb rfl rfl (row_of_cfgRead_received .low rfl hp hc ?_)) ?_
  · simpa [arrive, hr] using hlen
  refine Eq.trans (runSteps_succ_of_arrive 0 hb rfl rfl (row_of_decode .low rfl hp hc)) ?_
  simp [arrive, sendFrame, uartWrite, decodeBlock, leave, requestTransition, hr]

/-- A configuration command whose transition to Normal is over answers in two steps (R153, R187). -/
theorem runSteps_response {rest : List EnvAct} {s : State} (hb : s.busy = true) (hq : s.seq = .exit) (hp : s.phase = .idle)
    (hc : isConfigCommand s.cmdl = true) (he : s.err.isRefusal = false) (henv : s.env = quietAct :: quietAct :: rest) :
    s.runSteps 2 = { s with env := rest, draws := s.draws + 2 }.respond s.err := by
  refine Eq.trans (runSteps_succ_of_arrive 1 hb henv rfl (row_of_exit .low hq hp hc)) ?_
  refine Eq.trans (runSteps_succ_of_arrive 0 hb rfl rfl (row_of_respond .low rfl hp he)) ?_
  simp [arrive, respond, forgetLatches, answer, response]

/-- The bound of a CFG_READ leaves room for two ready transitions and the six rows between and after them. -/
theorem cfgRead_work_ge (s : State) : 4 * s.par.settleMs + 16 ≤ (s.start codeCfgRead).work := by
  simp only [work, phaseWork, start_seq, start_phase, start_tmr, start_par, applyWork, drainWork, pollWork, txWork, exitWork,
    transitionWork]
  omega

/-- A transition during which the environment is quiet (R127, R133). -/
theorem runSteps_quiet_transition {d : Nat} {rest : List EnvAct} {s : State} (hb : s.busy = true)
    (hq : s.seq = .enter ∨ s.seq = .exit) (hp : s.phase = .settle1) (hd : s.par.settleMs = d) (ht : s.tmr = d)
    (henv : s.env = List.replicate (2 * d + 5) quietAct ++ rest) :
    s.runSteps (2 * d + 5) = { s with
      phase := .idle, mode := s.target, msA := s.target.lineA, msB := s.target.lineB, inited := true, tmr := 0,
      t0 := s.now + 2 * d, now := s.now + 2 * d, rxbuf := [], env := rest, draws := s.draws + (2 * d + 5) } := by
  rw [List.replicate_succ', List.append_assoc] at henv
  exact runSteps_ready_transition hb hq hp hd ht henv List.length_replicate (by simp +contextual [List.mem_replicate]) rfl rfl

/-- A CFG_READ whose eleven bytes arrive at its first look and nothing else before it or after it: what its response is made of, and
the two transitions that its time is (R150, R159). -/
theorem cfgRead_runSteps {d : Nat} {bytes : List Byte} {rest : List EnvAct} {s : State} (hd : s.par.settleMs = d)
    (hlen : bytes.length = 11)
    (henv : s.env = List.replicate (2 * d + 7) quietAct ++ ⟨0, bytes, .low⟩ :: (List.replicate (2 * d + 8) quietAct ++ rest)) :
    ∃ u : State, (s.start codeCfgRead).runSteps (4 * d + 16) = u.respond .ok ∧
      u.warn = false ∧ u.mode = .normal ∧ u.inited = true ∧ u.cmdl = codeCfgRead ∧ u.rxbuf = [] ∧
      u.cfgl = unpack (Block.ofBytes (bytes.drop 3)) ∧ u.now = s.now + 2 * d + 2 * d := by
  have hsteps : 4 * d + 16 = (2 * d + 5) + (4 + ((2 * d + 5) + 2)) := by omega
  have henv' : (s.start codeCfgRead).env = List.replicate (2 * d + 5) quietAct ++ (quietAct :: quietAct :: ⟨0, bytes, .low⟩ ::
      quietAct :: (List.replicate (2 * d + 5) quietAct ++ (quietAct :: quietAct :: rest))) := by
    have hquiet : List.replicate (2 * d + 7) quietAct = List.replicate (2 * d + 5) quietAct ++ [quietAct, quietAct] :=
      List.replicate_add (2 * d + 5) 2 quietAct
    simp [henv, List.replicate_succ (n := 2 * d + 7), hquiet]
  rw [hsteps, runSteps_add, runSteps_quiet_transition (s := s.start codeCfgRead) rfl (.inl rfl) rfl hd hd henv',
    runSteps_add, runSteps_exchange rfl rfl rfl rfl rfl hlen rfl,
    runSteps_add, runSteps_quiet_transition rfl (.inr rfl) rfl (by exact hd) (by exact hd) rfl]
  exact ⟨_, runSteps_response rfl rfl rfl rfl rfl rfl, rfl, rfl, rfl, rfl, rfl, rfl, rfl⟩

/-- Settles O37: the run of `cfgRead_runSteps` ends within the bound, and its response is read off its last state. -/
theorem cfgReadAnswersTheBytesThatArrived : Obligations.CfgReadAnswersTheBytesThatArrived := by
  intro bytes after n s hs haccepts hlen henv hn
  obtain ⟨m, rfl⟩ := Nat.exists_eq_add_of_le hn
  rw [List.replicate_add _ m, List.append_assoc] at henv
  obtain ⟨u, hrun, hwarn, hmode, hinited, hcmdl, hrxbuf, hcfgl, hnow⟩ := cfgRead_runSteps rfl hlen henv
  obtain ⟨k, hk⟩ := Nat.exists_eq_add_of_le (cfgRead_work_ge s)
  have hdrive : (s.start codeCfgRead).drive = u.respond .ok := by
    rw [drive, start_hostWaits, hs.waits, if_pos rfl, hk, runSteps_add, hrun, runSteps_idle k (respond_busy u .ok)]
  refine ⟨u.respond .ok, ?_, ?_, ?_, ?_⟩
  · rw [exec_of_accepted rfl haccepts.idle fun _ => haccepts.inited, commandBody, hdrive]
  · simp [response, Response.ended, Response.bare, hwarn, hmode, hinited, hcmdl, hcfgl]
  · rw [respond_now, hnow]
    omega
  · rw [respond_rxbuf, hrxbuf]

end Sys2Proof.Machine.State
end

section
/-! SUPPORT. The register block read as bits and as numbers: where packing puts a field, where unpacking takes it from, that unpacking
inverts packing on valid records, and that the reserved bits are written 0 and never looked at (R71, R76, R77, R80, R103). -/

namespace Sys2Proof

/-! ### Fields of a byte -/

/-- Two fields side by side, the low one below bit `k`: as a number, their weighted sum. -/
theorem toNat_shiftLeft_or {w k : Nat} {v x : BitVec w} (hv : v.toNat * 2 ^ k < 2 ^ w) (hx : x.toNat < 2 ^ k) :
    (v <<< k ||| x).toNat = v.toNat * 2 ^ k + x.toNat := by
  rw [BitVec.toNat_or, BitVec.toNat_shiftLeft, Nat.shiftLeft_eq, Nat.mod_eq_of_lt hv, ← Nat.shiftLeft_eq,
    Nat.shiftLeft_add_eq_or_of_lt hx]

theorem slice_toNat (v : Byte) {hi : Nat} (lo : Nat) (h : hi < 8) : (slice v hi lo).toNat = v.toNat / 2 ^ lo % 2 ^ (hi - lo + 1) := by
  have hle : 2 ^ (hi - lo + 1) ≤ 2 ^ 8 := Nat.pow_le_pow_right (by decide) (by omega)
  rw [slice, BitVec.toNat_setWidth, BitVec.extractLsb_toNat, Nat.shiftRight_eq_div_pow,
    Nat.mod_eq_of_lt ((Nat.mod_lt _ (Nat.two_pow_pos _)).trans_le hle)]

theorem getLsbD_slice (v : Byte) (hi lo i : Nat) :
    (slice v hi lo).getLsbD i = (decide (i < 8) && (decide (i < hi - lo + 1) && v.getLsbD (lo + i))) := by
  rw [slice, BitVec.getLsbD_setWidth, BitVec.getLsbD_extractLsb]

/-- An index that fits its field is the whole field. -/
theorem slice_of_lt {v : Byte} {hi : Nat} (h : hi < 8) (hv : v.toNat < 2 ^ (hi + 1)) : slice v hi 0 = v :=
  BitVec.eq_of_toNat_eq (by rw [slice_toNat v 0 h, Nat.pow_zero, Nat.div_one, Nat.sub_zero, Nat.mod_eq_of_lt hv])

/-- A mask that keeps every bit of a field keeps the field. -/
theorem slice_and {m : Byte} {hi lo : Nat} (v : Byte) (h : ∀ i ≤ hi - lo, m.getLsbD (lo + i) = true) :
    slice (v &&& m) hi lo = slice v hi lo := by
  refine BitVec.eq_of_getLsbD_eq fun i _ => ?_
  rw [getLsbD_slice, getLsbD_slice, BitVec.getLsbD_and]
  by_cases hi' : i < hi - lo + 1
  · rw [h i (Nat.le_of_lt_succ hi'), Bool.and_true]
  · simp [hi']

@[simp] theorem boolBit_toNat (b : Bool) : (boolBit b).toNat = b.toNat := by cases b <;> rfl

theorem boolBit_toNat_lt (b : Bool) : (boolBit b).toNat < 2 := by rw [boolBit_toNat]; exact b.toNat_lt

theorem getLsbD_boolBit (b : Bool) (i : Nat) : (boolBit b).getLsbD i = (decide (i = 0) && b) := by
  cases b <;> simp [boolBit, BitVec.getLsbD_one]

theorem toNat_getLsbD (v : Byte) (i : Nat) : (v.getLsbD i).toNat = v.toNat / 2 ^ i % 2 := Nat.toNat_testBit v.toNat i

/-! ### Halves of a 16-bit field -/

theorem Half.high_toNat (v : Half) : v.high.toNat = v.toNat / 256 := by
  have hv : v.toNat < 65536 := v.isLt
  rw [Half.high, BitVec.extractLsb'_toNat, Nat.shiftRight_eq_div_pow]
  omega

theorem Half.low_toNat (v : Half) : v.low.toNat = v.toNat % 256 := by
  rw [Half.low, BitVec.extractLsb'_toNat, Nat.shiftRight_zero]

theorem Half.ofBytes_toNat (hi lo : Byte) : (Half.ofBytes hi lo).toNat = 256 * hi.toNat + lo.toNat := by
  have hhi : hi.toNat < 256 := hi.isLt
  have hlo : lo.toNat < 256 := lo.isLt
  have whi : (hi.setWidth 16).toNat = hi.toNat := BitVec.toNat_setWidth_of_le (by decide)
  have wlo : (lo.setWidth 16).toNat = lo.toNat := BitVec.toNat_setWidth_of_le (by decide)
  rw [Half.ofBytes, toNat_shiftLeft_or (by omega) (by omega)]
  omega

/-! ### Packing -/

/-- A record is valid exactly where each enumerated index is below its cardinality (R102). -/
theorem Configuration.valid_iff (c : Configuration) :
    c.valid = true ↔ c.baudRate.toNat < 8 ∧ c.parity.toNat < 4 ∧ c.airDataRate.toNat < 8 ∧ c.subPacketSize.toNat < 4 ∧
      c.transmitPower.toNat < 4 ∧ c.transmissionMethod.toNat < 2 ∧ c.worCycle.toNat < 8 := by
  simp only [valid, Bool.and_eq_true, decide_eq_true_eq]
  omega

/-- Packing a valid record puts every index in whole. -/
theorem pack_of_valid {c : Configuration} (h : c.valid = true) :
    pack c = {
      b0 := c.address.high
      b1 := c.address.low
      b2 := c.baudRate <<< 5 ||| (c.parity <<< 3 ||| c.airDataRate)
      b3 := c.subPacketSize <<< 6 ||| (boolBit c.rssiAmbientNoise <<< 5 ||| c.transmitPower)
      b4 := c.channel
      b5 := boolBit c.rssiByteEnable <<< 7 ||| (c.transmissionMethod <<< 6 ||| (boolBit c.lbtEnable <<< 4 ||| c.worCycle))
      b6 := c.encryptionKey.high
      b7 := c.encryptionKey.low } := by
  obtain ⟨hbaud, hparity, hair, hsub, hpower, hmethod, hwor⟩ := c.valid_iff.1 h
  rw [pack, slice_of_lt (by decide) hbaud, slice_of_lt (by decide) hparity, slice_of_lt (by decide) hair,
    slice_of_lt (by decide) hsub, slice_of_lt (by decide) hpower, slice_of_lt (by decide) hmethod, slice_of_lt (by decide) hwor]
  simp only [BitVec.or_assoc]

/-- Settles O7: in each byte the fields stand side by side (`toNat_shiftLeft_or`), and a valid index fills no more than its field. -/
theorem packPlacesEveryField : Obligations.PackPlacesEveryField := by
  intro c h
  obtain ⟨hbaud, hparity, hair, hsub, hpower, hmethod, hwor⟩ := c.valid_iff.1 h
  have hnoise := boolBit_toNat_lt c.rssiAmbientNoise
  have hrssi := boolBit_toNat_lt c.rssiByteEnable
  have hlbt := boolBit_toNat_lt c.lbtEnable
  rw [pack_of_valid h]
  refine ⟨?_, ?_, ?_, rfl, ?_, ?_⟩
  · rw [Half.high_toNat, Half.low_toNat, Nat.div_add_mod]
  · have hlow : (c.parity <<< 3 ||| c.airDataRate).toNat = _ := toNat_shiftLeft_or (by omega) (by omega)
    rw [toNat_shiftLeft_or (by omega) (by omega), hlow]
    omega
  · have hlow : (boolBit c.rssiAmbientNoise <<< 5 ||| c.transmitPower).toNat = _ := toNat_shiftLeft_or (by omega) (by omega)
    rw [toNat_shiftLeft_or (by omega) (by omega), hlow, boolBit_toNat]
    omega
  · have hlow : (boolBit c.lbtEnable <<< 4 ||| c.worCycle).toNat = _ := toNat_shiftLeft_or (by omega) (by omega)
    have hmid : (c.transmissionMethod <<< 6 ||| (boolBit c.lbtEnable <<< 4 ||| c.worCycle)).toNat = _ :=
      toNat_shiftLeft_or (by omega) (by omega)
    rw [toNat_shiftLeft_or (by omega) (by omega), hmid, hlow, boolBit_toNat, boolBit_toNat]
    omega
  · rw [Half.high_toNat, Half.low_toNat, Nat.div_add_mod]

/-! ### Unpacking -/

/-- Settles O8: an index is a slice of its byte (`slice_toNat`), a flag one bit of it (`toNat_getLsbD`), a 16-bit field two bytes. -/
theorem unpackReadsEveryField : Obligations.UnpackReadsEveryField := by
  intro b
  have h2 : b.b2.toNat < 256 := b.b2.isLt
  have h3 : b.b3.toNat < 256 := b.b3.isLt
  have h5 : b.b5.toNat < 256 := b.b5.isLt
  exact ⟨Half.ofBytes_toNat .., (slice_toNat _ 5 (by decide)).trans (by omega), slice_toNat _ 3 (by decide),
    (slice_toNat _ 0 (by decide)).trans (by omega), (slice_toNat _ 6 (by decide)).trans (by omega), toNat_getLsbD _ 5,
    (slice_toNat _ 0 (by decide)).trans (by omega), rfl, (toNat_getLsbD _ 7).trans (by omega), slice_toNat _ 6 (by decide),
    toNat_getLsbD _ 4, (slice_toNat _ 0 (by decide)).trans (by omega), Half.ofBytes_toNat ..⟩

theorem unpack_clearReserved (b : Block) : unpack b.clearReserved = unpack b := by
  have h3 : ∀ i ≤ 7 - 6, (0xE3 : Byte).getLsbD (6 + i) = true := by decide
  have h3' : ∀ i ≤ 1 - 0, (0xE3 : Byte).getLsbD (0 + i) = true := by decide
  have h5 : ∀ i ≤ 6 - 6, (0xD7 : Byte).getLsbD (6 + i) = true := by decide
  have h5' : ∀ i ≤ 2 - 0, (0xD7 : Byte).getLsbD (0 + i) = true := by decide
  simp only [unpack, Block.clearReserved]
  rw [slice_and _ h3, slice_and _ h3', slice_and _ h5, slice_and _ h5']
  simp

/-- Settles O9: clearing the reserved bits first does not change what is unpacked (`unpack_clearReserved`). -/
theorem reservedBitsAreNotLookedAt : Obligations.ReservedBitsAreNotLookedAt := by
  intro a b h
  rw [← unpack_clearReserved a, h, unpack_clearReserved b]

/-! ### Reserved bits and the round trip -/

/-- A mask finds nothing exactly where every bit that it looks at is 0. -/
theorem masked_eq_zero_iff (v m : Byte) : v &&& m = 0 ↔ ∀ i < 8, m.getLsbD i = true → v.getLsbD i = false := by
  refine ⟨fun h i _ hm => ?_, fun h => BitVec.eq_of_getLsbD_eq fun i hi => ?_⟩
  · simpa [hm] using congrArg (BitVec.getLsbD · i) h
  · cases hm : m.getLsbD i
    · simp [hm]
    · simp [h i hi hm]

/-- A block is canonical exactly where its five reserved bits are 0 (R107). -/
theorem Block.canonical_iff (b : Block) :
    b.canonical = true ↔ b.b3.getLsbD 2 = false ∧ b.b3.getLsbD 3 = false ∧ b.b3.getLsbD 4 = false ∧
      b.b5.getLsbD 5 = false ∧ b.b5.getLsbD 3 = false := by
  simp only [canonical, Bool.and_eq_true, beq_iff_eq, masked_eq_zero_iff, Nat.forall_lt_succ_right]
  simp [and_assoc, and_comm]

/-- ENCODE writes 0 in the reserved bits, whatever the record is (R80). -/
theorem pack_canonical (c : Configuration) : (pack c).canonical = true := by
  simp [Block.canonical_iff, pack, getLsbD_slice, getLsbD_boolBit, -BitVec.getLsbD_eq_getElem]

/-- Two records are the same where their fields are the same numbers. -/
theorem Configuration.eq_iff_toNat (c d : Configuration) :
    c = d ↔ c.address.toNat = d.address.toNat ∧ c.baudRate.toNat = d.baudRate.toNat ∧ c.parity.toNat = d.parity.toNat ∧
      c.airDataRate.toNat = d.airDataRate.toNat ∧ c.subPacketSize.toNat = d.subPacketSize.toNat ∧
      c.rssiAmbientNoise.toNat = d.rssiAmbientNoise.toNat ∧ c.transmitPower.toNat = d.transmitPower.toNat ∧
      c.channel = d.channel ∧ c.rssiByteEnable.toNat = d.rssiByteEnable.toNat ∧
      c.transmissionMethod.toNat = d.transmissionMethod.toNat ∧ c.lbtEnable.toNat = d.lbtEnable.toNat ∧
      c.worCycle.toNat = d.worCycle.toNat ∧ c.encryptionKey.toNat = d.encryptionKey.toNat := by
  have hbool (a b : Bool) : a.toNat = b.toNat ↔ a = b := by cases a <;> cases b <;> decide
  cases c
  cases d
  simp only [mk.injEq, BitVec.toNat_inj, hbool]

/-- Unpacking inverts packing on valid records: read as numbers, each field comes from where it was put (R103). -/
theorem unpack_pack {c : Configuration} (h : c.valid = true) : unpack (pack c) = c := by
  obtain ⟨hbaud, hparity, hair, hsub, hpower, hmethod, hwor⟩ := c.valid_iff.1 h
  have hnoise := c.rssiAmbientNoise.toNat_lt
  have hrssi := c.rssiByteEnable.toNat_lt
  have hlbt := c.lbtEnable.toNat_lt
  obtain ⟨paddr, pb2, pb3, pchannel, pb5, pkey⟩ := packPlacesEveryField c h
  obtain ⟨uaddr, ubaud, uparity, uair, usub, unoise, upower, uchannel, urssi, umethod, ulbt, uwor, ukey⟩ :=
    unpackReadsEveryField (pack c)
  refine (Configuration.eq_iff_toNat _ _).2 ⟨by omega, by omega, by omega, by omega, by omega, by omega, by omega,
    uchannel.trans pchannel, by omega, by omega, by omega, by omega, by omega⟩

end Sys2Proof
end

section
/-! SUPPORT. The decoder against the encoder, on every port, and the command codes of R83. -/

namespace Sys2Proof

/-! ### The command codes -/

/-- The codes of the pattern `000100mm` are four (R83). -/
theorem isSetMode_iff (c : Byte) : isSetMode c = true ↔ c = 0x10#8 ∨ c = 0x11#8 ∨ c = 0x12#8 ∨ c = 0x13#8 := by
  constructor
  · intro h
    have hmasked : c &&& 0xFC = 0x10 := by simpa [isSetMode] using h
    have hfield : slice c 7 2 = 4 := by
      rw [← slice_and (m := 0xFC) c (by decide), hmasked]
      rfl
    have hnum : c.toNat / 4 % 64 = 4 := (slice_toNat c 2 (by decide)).symm.trans (congrArg BitVec.toNat hfield)
    have hlt : c.toNat < 256 := c.isLt
    simp only [← BitVec.toNat_inj, BitVec.toNat_ofNat]
    omega
  · rintro (rfl | rfl | rfl | rfl) <;> rfl

/-- The twelve codes of R83. -/
abbrev commandCodes : List Byte :=
  [0x01#8, 0x02#8, 0x10#8, 0x11#8, 0x12#8, 0x13#8, 0x20#8, 0x21#8, 0x30#8, 0x31#8, 0x40#8, 0x41#8]

/-- The twelve codes in the order in which the decoder asks for them. -/
theorem mem_commandCodes_iff (c : Byte) :
    c ∈ commandCodes ↔ c = codeInit ∨ c = codeGetMode ∨ isSetMode c = true ∨ c = codeEncode ∨ c = codeDecode ∨ c = codeCfgRead ∨
      c = codeCfgWrite ∨ c = codeLineSend ∨ c = codeLineRecv ∨ False := by
  rw [isSetMode_iff]
  simp [codeInit, codeGetMode, codeEncode, codeDecode, codeCfgRead, codeCfgWrite, codeLineSend, codeLineRecv, or_assoc]

/-- One more question in front of a decoder that accepts exactly at `p` makes it accept at `c` too. -/
theorem accepts_or_rejects_ite {c p : Prop} [Decidable c] {j : Instr} {d : Except Reject Instr} {r : Reject}
    (h : (p ∧ ∃ i, d = .ok i) ∨ (¬p ∧ d = .error r)) :
    ((c ∨ p) ∧ ∃ i, (if c then .ok j else d) = .ok i) ∨ (¬(c ∨ p) ∧ (if c then .ok j else d) = .error r) := by
  by_cases hc : c
  · exact .inl ⟨.inl hc, j, if_pos hc⟩
  · simpa only [hc, false_or, if_false] using h

/-- The decoder at the command port: one of the twelve codes is a command, any other is rejected by name (R83, R85). -/
theorem decode_command_cases (p : CommandPort) :
    (p.code ∈ commandCodes ∧ ∃ i, decode (.command p) = .ok i) ∨
    (p.code ∉ commandCodes ∧ decode (.command p) = .error (.illegalCommand p.code)) := by
  rw [mem_commandCodes_iff, decode, decodeCommand]
  iterate 9 apply accepts_or_rejects_ite
  exact .inr ⟨not_false, rfl⟩

/-- Settles O2: the two cases of `decode_command_cases` exclude each other. -/
theorem commandCodesAreExactlyTheTable : Obligations.CommandCodesAreExactlyTheTable := by
  intro p
  rcases decode_command_cases p with ⟨hmem, i, hd⟩ | ⟨hmem, hd⟩
  · exact ⟨⟨fun _ => hmem, fun _ => ⟨i, hd⟩⟩, fun hnone => absurd hd (hnone i)⟩
  · exact ⟨⟨by simp [hd], fun h => absurd h hmem⟩, fun _ => hd⟩

/-! ### The round trip -/

/-- A packed valid record is read at the port REGBLOCK as itself (R71, R76). -/
theorem decode_blockOut_pack {c : Configuration} (h : c.valid = true) : decode (.blockOut (pack c)) = .ok (.regblock c) := by
  rw [decode, if_pos (pack_canonical c), unpack_pack h]

/-- The write request of a canonical block is read as itself (R51, R79). -/
theorem decode_writeRequest {b : Block} (h : b.canonical = true) : decode (.wire (writeRequest b)) = .ok (.wireWriteReq b) := by
  simp only [decode, writeRequest, writeHeader, Block.bytes, List.cons_append, List.nil_append, decodeWire, ↓reduceIte]
  exact if_pos h

/-- Settles O1: a REGBLOCK word is `decode_blockOut_pack`, a write request `decode_writeRequest`; a command with an operand port has it
read back from that port; every other word is a constant, one for each mode at SET_MODE. -/
theorem decodeOfEncodeIsTheInstruction : Obligations.DecodeOfEncodeIsTheInstruction := by
  intro i h
  cases i
  case setMode m => cases m <;> rfl
  case encode | decode | cfgWrite | lineSend =>
    simp only [encode, decode, decodeCommand, CommandPort.ofCode]
    rfl
  case regblock c => exact decode_blockOut_pack h
  case wireWriteReq b => exact decode_writeRequest h
  all_goals rfl

/-- Settles O3: each word is its own row of the table. -/
theorem wordsOfTheTableDecode : Obligations.WordsOfTheTableDecode := ⟨rfl, rfl, rfl, rfl, rfl, rfl, rfl, rfl⟩

end Sys2Proof
end

section
/-! SUPPORT. An undefined code at the port, and the words that the block itself makes and takes on the mode-select pins and on the
response port (R78, R84, R85, R188). -/

namespace Sys2Proof.Machine

open State

/-- Settles O16: the decoder rejects the code (`decode_command_cases`), which `step_of_illegal` answers in the state that the step
starts from. -/
theorem anUndefinedCodeIsRefusedBeforeAnythingElse : Obligations.AnUndefinedCodeIsRefusedBeforeAnythingElse := by
  intro p w rest s hh hmem
  rcases decode_command_cases p with ⟨hin, -⟩ | ⟨-, hd⟩
  · exact absurd hin hmem
  · rw [step_of_illegal hh hd, stepStart, hh]
    rfl

theorem exec_modeInstr (m : Mode) (s : State) : exec (modeInstr m) s = .next (s.applyMode m) := by cases m <;> rfl

/-- Settles O21: a mode word is the row P_APPLY (`exec_modeInstr`), whose levels are the two bits of the mode's code. -/
theorem modeWordsDriveThePins : Obligations.ModeWordsDriveThePins := fun s =>
  ⟨exec_modeInstr .normal s, exec_modeInstr .wakeUp s, exec_modeInstr .powerDown s, exec_modeInstr .program s⟩

theorem exec_statusInstr (st : Status) (s : State) : exec (statusInstr st) s = .next (s.present st) := by cases st <;> rfl

/-- A status that ends a command is the row S_RESPOND (R153, R187). -/
theorem exec_statusInstr_of_end {st : Status} (h : st.isRefusal = false) (s : State) :
    exec (statusInstr st) s = .next (s.respond st) := by
  rw [exec_statusInstr, present, h]
  rfl

/-- A status that declines a command is the refusal of R185. -/
theorem exec_statusInstr_of_refusal {st : Status} (h : st.isRefusal = true) (s : State) :
    exec (statusInstr st) s = .next (s.refuse st) := by
  rw [exec_statusInstr, present, if_pos h]

/-- The latches at the response, by the code of the command in flight: free values after CFG_READ and CFG_WRITE (R154). -/
theorem State.forgetLatches_eq (s : State) :
    s.forgetLatches = if s.cmdl = 0x30 ∨ s.cmdl = 0x31 then
      { s with cfgl := Config.freeRecord s.frees, blkl := Config.freeBlock s.frees, frees := s.frees + 1 } else s := by
  have hiff : isConfigCommand s.cmdl = true ↔ s.cmdl = 0x30 ∨ s.cmdl = 0x31 := isConfigCommand_iff s.cmdl
  by_cases h : isConfigCommand s.cmdl = true
  · rw [if_pos (hiff.1 h)]
    simp [forgetLatches, h]
  · rw [if_neg (mt hiff.2 h)]
    simp [forgetLatches, h]

theorem State.response_ok (s : State) :
    s.response .ok = { Response.bare .ok with
      warn := some s.warn, mode := if s.inited then some s.mode else none, cfg := if s.cmdl = 0x30 then some s.cfgl else none } := by
  simp [response, codeCfgRead, Response.bare]

/-- Settles O24: a status word is the row S_RESPOND or the refusal; the response of the row is read off for each status. -/
theorem statusWordsEndOrDeclineACommand : Obligations.StatusWordsEndOrDeclineACommand := by
  intro m s u hm hu
  rw [← forgetLatches_eq] at hu
  subst hm hu
  refine ⟨(exec_statusInstr_of_end (st := .ok) rfl s).trans ?_, exec_statusInstr_of_end (st := .shortRead) rfl s,
    exec_statusInstr_of_end (st := .transportTimeout) rfl s, exec_statusInstr_of_end (st := .invalidEnumValue) rfl s,
    exec_statusInstr_of_refusal (st := .busy) rfl s, exec_statusInstr_of_refusal (st := .notInitialised) rfl s,
    exec_statusInstr_of_refusal (st := .illegalCommand) rfl s⟩
  rw [respond, response_ok]
  rfl

end Sys2Proof.Machine
end

section
/-! SUPPORT. Packing after unpacking: exact on the canonical blocks, and clearing the reserved bits on every block, so that valid
records and canonical blocks correspond one to one (R103, R104, R107). -/

namespace Sys2Proof

theorem toNat_div_mod_of_getLsbD_eq_false {v : Byte} {i : Nat} (h : v.getLsbD i = false) : v.toNat / 2 ^ i % 2 = 0 := by
  rw [← toNat_getLsbD, h, Bool.toNat_false]

/-- Two blocks are the same where their bytes are the same numbers. -/
theorem Block.eq_iff_toNat (a b : Block) :
    a = b ↔ a.b0.toNat = b.b0.toNat ∧ a.b1.toNat = b.b1.toNat ∧ a.b2.toNat = b.b2.toNat ∧ a.b3.toNat = b.b3.toNat ∧
      a.b4.toNat = b.b4.toNat ∧ a.b5.toNat = b.b5.toNat ∧ a.b6.toNat = b.b6.toNat ∧ a.b7.toNat = b.b7.toNat := by
  cases a
  cases b
  simp only [mk.injEq, BitVec.toNat_inj]

/-- Every field that is unpacked is too narrow to hold an index beyond its enumeration (R101, R104). -/
theorem unpack_valid (b : Block) : (unpack b).valid = true := by
  have h2 : b.b2.toNat < 256 := b.b2.isLt
  have h3 : b.b3.toNat < 256 := b.b3.isLt
  obtain ⟨-, hbaud, hparity, hair, hsub, -, hpower, -, -, hmethod, -, hwor, -⟩ := unpackReadsEveryField b
  exact (unpack b).valid_iff.2 ⟨by omega, by omega, by omega, by omega, by omega, by omega, by omega⟩

/-- Packing inverts unpacking on canonical blocks: read as numbers, the fields and the reserved zeros make up each byte (R104). -/
theorem pack_unpack_of_canonical {b : Block} (h : b.canonical = true) : pack (unpack b) = b := by
  obtain ⟨h32, h33, h34, h55, h53⟩ := b.canonical_iff.1 h
  have z32 := toNat_div_mod_of_getLsbD_eq_false h32
  have z33 := toNat_div_mod_of_getLsbD_eq_false h33
  have z34 := toNat_div_mod_of_getLsbD_eq_false h34
  have z55 := toNat_div_mod_of_getLsbD_eq_false h55
  have z53 := toNat_div_mod_of_getLsbD_eq_false h53
  have hb1 : b.b1.toNat < 256 := b.b1.isLt
  have hb7 : b.b7.toNat < 256 := b.b7.isLt
  have hp1 : (pack (unpack b)).b1.toNat < 256 := (pack (unpack b)).b1.isLt
  have hp7 : (pack (unpack b)).b7.toNat < 256 := (pack (unpack b)).b7.isLt
  obtain ⟨paddr, pb2, pb3, pchannel, pb5, pkey⟩ := packPlacesEveryField (unpack b) (unpack_valid b)
  obtain ⟨uaddr, ubaud, uparity, uair, usub, unoise, upower, uchannel, urssi, umethod, ulbt, uwor, ukey⟩ :=
    unpackReadsEveryField b
  exact (Block.eq_iff_toNat _ _).2 ⟨by omega, by omega, by omega, by omega, congrArg BitVec.toNat (pchannel.trans uchannel),
    by omega, by omega, by omega⟩

theorem clearReserved_canonical (b : Block) : b.clearReserved.canonical = true := by
  simp [Block.canonical, Block.clearReserved, BitVec.and_assoc]

/-- What unpacking does not look at, packing writes 0 (R80, R104). -/
theorem pack_unpack (b : Block) : pack (unpack b) = b.clearReserved := by
  rw [← unpack_clearReserved, pack_unpack_of_canonical (clearReserved_canonical b)]

/-- Settles O4: unpacking inverts packing on valid records (`unpack_pack`), hence packing is injective there, and a canonical block is
the packing of the record it unpacks to (`pack_unpack_of_canonical`). -/
theorem unpackOfPackIsTheRecord : Obligations.UnpackOfPackIsTheRecord := by
  refine ⟨fun _ => unpack_pack, fun c d hc hd h => ?_, fun b h => ⟨unpack b, unpack_valid b, pack_unpack_of_canonical h⟩⟩
  rw [← unpack_pack hc, h, unpack_pack hd]

/-- Settles O5: the two masks are those of `Block.clearReserved`. -/
theorem packOfUnpackClearsTheReservedBits : Obligations.PackOfUnpackClearsTheReservedBits :=
  fun b => ⟨unpack_valid b, pack_unpack b, pack_unpack_of_canonical⟩

/-- Settles O6: the bits are `Block.canonical_iff`, the masks the definition; a block that packing gives back is canonical because
every packed record is (`pack_canonical`). -/
theorem canonicalBlocksHaveTheReservedBitsClear : Obligations.CanonicalBlocksHaveTheReservedBitsClear := by
  refine ⟨Block.canonical_iff, fun b => ?_, fun b => ⟨pack_unpack_of_canonical, fun h => ?_⟩, pack_canonical⟩
  · simp only [Block.canonical, Bool.and_eq_true, beq_iff_eq]
  · rw [← h]
    exact pack_canonical (unpack b)

end Sys2Proof

namespace Sys2Proof.Machine

open State

/-- Settles O10: an idle block performs ENCODE whether or not it is initialised (`exec_of_accepted`), and the two lists of bounds say
that the record is valid and that it is not (`Configuration.valid_iff`). -/
theorem encodeAnswersTheBlockOrInvalidEnumValue : Obligations.EncodeAnswersTheBlockOrInvalidEnumValue := by
  intro c s hb
  have hexec : exec (.encode c) s = .next (commandBody (.encode c) s) := exec_of_accepted rfl hb (by simp [needsInit])
  rw [hexec, commandBody]
  refine ⟨fun hlegal => ?_, fun hbeyond => ?_⟩
  · rw [if_pos (c.valid_iff.2 hlegal)]
    rfl
  · have hinvalid : ¬c.valid = true := by
      rw [c.valid_iff]
      omega
    rw [if_neg hinvalid]
    rfl

/-- Settles O11: an idle block performs DECODE whether or not it is initialised. -/
theorem decodeAnswersTheRecordOfEveryBlock : Obligations.DecodeAnswersTheRecordOfEveryBlock :=
  fun _ _ hb => exec_of_accepted rfl hb (by simp [needsInit])

end Sys2Proof.Machine
end

section
/-! SUPPORT. Commands that a busy block declines, GET_MODE, a reset in the middle of a run, and why no step of the invariant faults. -/

namespace Sys2Proof.Machine

open State

/-- A busy block declines every command of the host with Busy (R185, log entry 16). -/
theorem exec_of_busy {i : Instr} (h : isHostCommand i = true) {s : State} (hb : s.busy = true) :
    exec i s = .next (s.refuse .busy) := by
  simp [exec_hostCommand h, runCommand, refusal, hb]

/-- An idle block that is not initialised declines every command that needs INIT first (R185). -/
theorem exec_of_not_initialised {i : Instr} (h : isHostCommand i = true) (hn : needsInit i = true) {s : State}
    (hb : s.busy = false) (hi : s.inited = false) : exec i s = .next (s.refuse .notInitialised) := by
  simp [exec_hostCommand h, runCommand, refusal, hn, hb, hi]

/-- Settles O12: GET_MODE is declined while the block is busy or not initialised, and else answers MODE. -/
theorem getModeAnswersTheModeRegister : Obligations.GetModeAnswersTheModeRegister :=
  fun _ => ⟨fun h => exec_of_accepted rfl h.idle fun _ => h.inited, exec_of_busy rfl, exec_of_not_initialised rfl rfl⟩

/-- A busy block admits whatever is presented, and declines it. -/
theorem step_of_present_busy {p : CommandPort} {w : Bool} {rest : List HostAct} {i : Instr} {s : State}
    (hh : s.host = .present p w :: rest) (hd : decode (.command p) = .ok i) (hb : s.busy = true) :
    step s = .next ({ s.stepStart with hostWaits := w }.refuse .busy) := by
  have hadmits : s.stepStart.admits i = true := by simp [admits, hb]
  simp only [step, hh, List.head?_cons, hd, hadmits, ↓reduceIte]
  exact exec_of_busy (isHostCommand_of_decode hd) hb

/-- Settles O17: a legal code decodes to a command (`decode_command_cases`), which the busy block declines (`step_of_present_busy`). -/
theorem aPresentedCommandDoesNotDisturbABusyBlock : Obligations.APresentedCommandDoesNotDisturbABusyBlock := by
  intro p w rest s hh hb hmem
  rcases decode_command_cases p with ⟨-, i, hd⟩ | ⟨hout, -⟩
  · rw [step_of_present_busy hh hd hb, stepStart, hh]
    rfl
  · exact absurd hmem hout

theorem step_of_reset {s : State} {rest : List HostAct} (hh : s.host = .reset :: rest) : step s = .next s.stepStart.resetBlock := by
  simp [step, hh]

/-- Settles O52: each value is the reset state's or stands outside the block. -/
theorem aResetAbandonsTheCommandInFlight : Obligations.AResetAbandonsTheCommandInFlight := by
  intro rest s hh
  have hhost : s.stepStart.resetBlock.host = rest := by simp [hh]
  exact ⟨_, step_of_reset hh, rfl, rfl, rfl, rfl, rfl, rfl, rfl, rfl, rfl, rfl, rfl, rfl, rfl, hhost, rfl, rfl⟩

/-- A command of the host is answered or performed; it is no stop of the machine (R185). -/
theorem exec_hostCommand_ne_fault {i : Instr} (h : isHostCommand i = true) (s : State) (f : Fault) : exec i s ≠ .fault f := by
  rw [exec_hostCommand h, runCommand]
  nofun

theorem step_of_present_ne_fault {p : CommandPort} {w : Bool} {rest : List HostAct} {s : State}
    (hh : s.host = .present p w :: rest) (f : Fault) : step s ≠ .fault f := by
  cases hd : decode (.command p) with
  | error r => simp [step_of_illegal hh hd]
  | ok i =>
    simp only [step, hh, List.head?_cons, hd]
    split
    · exact exec_hostCommand_ne_fault (isHostCommand_of_decode hd) _ f
    · nofun

/-- Where the sequencer stands legally, a row is enabled or the block is idle (R127, R153). -/
theorem quiet_ne_fault (aux : Level) {s : State} (h : s.SequencerLegal) (f : Fault) : s.quiet aux ≠ .fault f := by
  rcases quiet_cases aux s with ⟨_, e⟩ | ⟨_, t, _, e⟩ | ⟨hb, hr, _⟩
  · simp [e]
  · simp [e]
  · obtain ⟨t, ht⟩ := h.exists_row aux hb
    simp [hr] at ht

/-- Settles O44: a command never stops the machine, a reset neither, and a command in flight has a row (`quiet_ne_fault`). -/
theorem noStepFaults : Obligations.NoStepFaults := by
  intro s h f
  have hquiet : s.stepStart.quiet s.draw.aux ≠ .fault f := quiet_ne_fault _ (stepStart_inv h).sequencer f
  cases hh : s.host with
  | nil => rwa [step_of_no_command (.inl hh)]
  | cons act rest =>
    cases act with
    | nothing => rwa [step_of_no_command (.inr ⟨rest, hh⟩)]
    | present p w => exact step_of_present_ne_fault hh f
    | reset => simp [step_of_reset hh]

end Sys2Proof.Machine
end

section
/-! SUPPORT. The tables R127 and R153 row by row, the word that a row takes or makes, the register block rows, and the way of an error to
the response. -/

namespace Sys2Proof.Machine.State

/-! ### The phase table -/

theorem transitionRow_of_timeout {s : State} (hp : s.phase = .poll) (ht : s.par.readyTimeoutMs ≤ s.now - s.t0) :
    s.transitionRow .high = { s with warn := true, phase := .idle } := by
  simp [transitionRow, hp, ht, setWarn]

theorem transitionRow_of_not_ready {s : State} (hp : s.phase = .poll) (ht : s.now - s.t0 < s.par.readyTimeoutMs) :
    s.transitionRow .high = { s with tmr := s.par.pollMs, phase := .pollWait } := by
  simp [transitionRow, hp, Nat.not_le.2 ht]

/-- Settles O25: inside a transition the row is the one of R127, which each clause gives its own lemma of. -/
theorem phaseTable : Obligations.PhaseTable := by
  intro aux s hq
  have hrow (hp : s.phase ≠ .idle) : s.row aux = some (s.transitionRow aux) := row_of_transition aux hq hp
  -- the three delays are one argument
  have hdelay (hp : s.phase.readsTmr = true) :
      (0 < s.tmr → s.row aux = some { s with tmr := s.tmr - 1, now := s.now + 1 }) ∧
      (s.tmr = 0 → s.row aux = some { s with phase := afterDelay s.phase }) := by
    have hne : s.phase ≠ .idle := by rintro h; simp [h, Phase.readsTmr] at hp
    exact ⟨fun ht => by rw [hrow hne, transitionRow_of_delay aux hp ht.ne']; rfl,
      fun ht => by rw [hrow hne, transitionRow_of_delay_over aux hp ht]⟩
  refine ⟨fun hp => ?_, fun hp => ?_, fun hp => ?_, fun hp => ?_, fun hp => ?_, fun hp => ?_, fun hp haux => ?_,
    fun hp haux ht => ?_, fun hp haux ht => ?_, fun hp => ?_, fun hp => ?_⟩
  case refine_1 | refine_4 | refine_10 => exact (hdelay (by rw [hp]; rfl)).1
  case refine_2 | refine_5 | refine_11 =>
    have hover := (hdelay (by rw [hp]; rfl)).2
    rwa [hp] at hover
  all_goals rw [hrow (by simp [hp])]
  · rw [transitionRow_of_apply aux hp]
    rfl
  · rw [transitionRow_of_drain aux hp]
  · rw [haux, transitionRow_of_ready hp]
  · rw [haux, transitionRow_of_timeout hp ht]
  · rw [haux, transitionRow_of_not_ready hp ht]

/-! ### The command table -/

theorem row_of_cfgWrite_enter (aux : Level) {s : State} (hq : s.seq = .enter) (hp : s.phase = .idle) (hc : s.cmdl = codeCfgWrite) :
    s.row aux = some { s with seq := .encode } := by
  simp [row, hq, hp, hc]

theorem row_of_transition_over (aux : Level) {s : State} (hq : s.seq = .enter) (hp : s.phase = .idle)
    (hc : isTransitionOnly s.cmdl = true) : s.row aux = some { s with seq := .respond } := by
  have hconfig : s.cmdl ≠ codeCfgRead ∧ s.cmdl ≠ codeCfgWrite := by
    simpa [isConfigCommand] using isConfigCommand_of_isTransitionOnly hc
  simp [row, hq, hp, hc, hconfig]

theorem row_of_encode (aux : Level) {s : State} (hq : s.seq = .encode) (hp : s.phase = .idle) (hc : s.cmdl = codeCfgWrite) :
    s.row aux = some (s.encodeRecord s.cfgl) := by
  simp [row, hq, hp, hc]

theorem row_of_cfgWrite_tx (aux : Level) {s : State} (hq : s.seq = .tx) (hp : s.phase = .idle) (hc : s.cmdl = codeCfgWrite) :
    s.row aux = some (s.sendFrame (writeRequest s.blkl)) := by
  simp [row, hq, hp, hc]

theorem encodeRecord_of_valid {cfg : Configuration} (h : cfg.valid = true) (s : State) :
    s.encodeRecord cfg = { s with blkl := pack cfg, seq := .tx } := by
  simp [encodeRecord, h]

theorem encodeRecord_of_invalid {cfg : Configuration} (h : cfg.valid = false) (s : State) :
    s.encodeRecord cfg = s.raiseError .invalidEnumValue [] := by
  simp [encodeRecord, h]

/-- Settles O23: the encode step by the record's validity, and the decode step, which asks nothing of the block. -/
theorem registerBlockRows : Obligations.RegisterBlockRows := fun _ _ s =>
  ⟨fun h => congrArg Host.Outcome.next (encodeRecord_of_valid h s),
    fun h => congrArg Host.Outcome.next (encodeRecord_of_invalid h s), rfl⟩

theorem isTransitionOnly_codeInit : isTransitionOnly codeInit = true := by decide
theorem isTransitionOnly_codeSetMode (m : Mode) : isTransitionOnly (codeSetMode m) = true := by cases m <;> decide

/-- Settles O54: each clause is the row of R153 at its place, the response with the latches of `forgetLatches_eq`. -/
theorem commandTable : Obligations.CommandTable := by
  intro aux s hp
  refine ⟨fun hq hc => row_of_cfgRead_enter aux hq hp hc, fun hq hc => row_of_cfgWrite_enter aux hq hp hc, fun hq hc => ?_,
    fun hq hc hv => ?_, fun hq hc hv => ?_, fun hq hc => row_of_cfgRead_tx aux hq hp hc, fun hq hc => ?_,
    fun hq hc => row_of_decode aux hq hp hc, fun hq hc => row_of_exit aux hq hp ((isConfigCommand_iff _).2 hc), fun hq he u hu => ?_⟩
  · refine row_of_transition_over aux hq hp ?_
    rcases hc with hc | ⟨m, hc⟩ <;> rw [hc]
    · exact isTransitionOnly_codeInit
    · exact isTransitionOnly_codeSetMode m
  · rw [row_of_encode aux hq hp hc, encodeRecord_of_valid hv]
  · rw [row_of_encode aux hq hp hc, encodeRecord_of_invalid hv]
    rfl
  · rw [row_of_cfgWrite_tx aux hq hp hc, List.append_assoc]
    rfl
  · rw [← forgetLatches_eq] at hu
    subst hu
    exact row_of_respond aux hq hp he

/-! ### The word at a row -/

theorem decode_status_code (st : Status) : Sys2Proof.decode (.status st.code) = .ok (statusInstr st) := by cases st <;> rfl

theorem decode_modeSelect_code (m : Mode) : Sys2Proof.decode (.modeSelect m.code) = .ok (modeInstr m) := by cases m <;> rfl

/-- A write request is an instruction only with a canonical payload (R53, R107). -/
theorem eq_wireWriteReq_of_decode {b : Block} {i : Instr} (h : Sys2Proof.decode (.wire (writeRequest b)) = .ok i) :
    i = .wireWriteReq b := by
  cases hb : b.canonical
  case true =>
    rw [decode_writeRequest hb] at h
    cases h
    rfl
  case false =>
    simp only [Sys2Proof.decode, writeRequest, writeHeader, Block.bytes, List.cons_append, List.nil_append, decodeWire,
      ↓reduceIte, hb, Bool.false_eq_true, reduceCtorEq] at h

/-- Everything that a word at a row can be (log entry 14). -/
theorem wordAt_cases {s : State} {w : PortWord} (h : s.wordAt = some w) :
    (s.phase = .apply ∧ (s.seq = .enter ∨ s.seq = .exit) ∧ w = .modeSelect s.target.code) ∨
    (s.phase = .idle ∧
      ((s.seq = .respond ∧ w = .status s.err.code) ∨
       (s.seq = .encode ∧ s.cmdl = codeCfgWrite ∧ s.cfgl.valid = true ∧ w = .blockOut (pack s.cfgl)) ∨
       (s.seq = .decode ∧ s.cmdl = codeCfgRead ∧ w = .blockIn s.blkl) ∨
       (s.seq = .tx ∧ s.cmdl = codeCfgRead ∧ w = .wire readRequest) ∨
       (s.seq = .tx ∧ s.cmdl = codeCfgWrite ∧ w = .wire (writeRequest s.blkl)))) := by
  unfold wordAt at h
  repeat' split at h
  all_goals simp_all

/-- The row does what the instruction of its word does (log entry 14). -/
theorem exists_row_of_wordAt (aux : Level) {s : State} {w : PortWord} {i : Instr} (hw : s.wordAt = some w)
    (hd : Sys2Proof.decode w = .ok i) : ∃ t, s.row aux = some t ∧ exec i s = .next t := by
  rcases wordAt_cases hw with ⟨hp, hq, rfl⟩ | ⟨hp, ⟨hq, rfl⟩ | ⟨hq, hc, hv, rfl⟩ | ⟨hq, hc, rfl⟩ | ⟨hq, hc, rfl⟩ | ⟨hq, hc, rfl⟩⟩
  · cases (decode_modeSelect_code s.target).symm.trans hd
    refine ⟨_, row_of_transition aux hq (by simp [hp]), ?_⟩
    rw [transitionRow_of_apply aux hp, exec_modeInstr]
  · cases (decode_status_code s.err).symm.trans hd
    exact ⟨s.present s.err, by simp [row, hq, hp], exec_statusInstr s.err s⟩
  · cases (decode_blockOut_pack hv).symm.trans hd
    exact ⟨_, row_of_encode aux hq hp hc, rfl⟩
  · cases hd
    exact ⟨_, row_of_decode aux hq hp hc, rfl⟩
  · cases hd
    exact ⟨_, row_of_cfgRead_tx aux hq hp hc, rfl⟩
  · cases eq_wireWriteReq_of_decode hd
    exact ⟨_, row_of_cfgWrite_tx aux hq hp hc, rfl⟩

/-- Settles O19: the environment's act and the end of the pulse leave the word as it is, and the row is exec of its instruction
(`exists_row_of_wordAt`). -/
theorem stepRunsTheWordOfTheRow : Obligations.StepRunsTheWordOfTheRow := by
  intro w i s hh hb hw hd
  obtain ⟨t, hr, he⟩ := exists_row_of_wordAt s.draw.aux (s := s.stepStart) hw hd
  rw [step_of_no_command hh]
  refine Eq.trans ?_ he.symm
  simp [quiet, hb, hr]

/-! ### Errors -/

@[simp] theorem present_err (st : Status) (s : State) : (s.present st).err = s.err := by
  rcases present_cases st s with ⟨_, e⟩ | ⟨_, e⟩ <;> rw [e] <;> rfl

/-- A row changes ERR only where it raises an error, which sends the block to Normal by S_EXIT (R152, R186). -/
theorem RowTo.err_cases {s t : State} (r : s.RowTo t) :
    t.err = s.err ∨ ((t.err = .shortRead ∨ t.err = .transportTimeout ∨ t.err = .invalidEnumValue) ∧
      t.seq = .exit ∧ t.phase = .settle1 ∧ t.target = .normal ∧ t.txlog = s.txlog) := by
  cases r
  case invalid | short | timeout => exact .inr (by simp)
  all_goals exact .inl (by simp)

/-- S_EXIT is left for S_RESPOND only, once the transition is over (R153). -/
theorem RowTo.seq_of_exit {s t : State} (r : s.RowTo t) (hq : s.seq = .exit) :
    t.seq = .exit ∨ (t.seq = .respond ∧ s.phase = .idle) := by
  cases r
  case transition => exact .inl (by simp [hq])
  case exitDone _ hp _ => exact .inr ⟨rfl, hp⟩
  all_goals simp_all

/-- A configuration command comes to its response from S_EXIT only (R152, R153). -/
theorem RowTo.exit_of_respond {s t : State} (r : s.RowTo t) (hc : isConfigCommand s.cmdl = true) (hq : s.seq ≠ .respond)
    (ht : t.seq = .respond) : s.seq = .exit := by
  cases r
  case exitDone h _ _ => exact h
  case enterDone h => simp [isConfigCommand_of_isTransitionOnly h] at hc
  all_goals simp_all

/-- The row S_RESPOND drives ERR and takes BUSY away (R153, R187). -/
theorem RowTo.response {s t : State} (r : s.RowTo t) (hq : s.seq = .respond) (he : s.err.isRefusal = false) :
    t.rsp.status = s.err ∧ t.busy = false := by
  cases r
  case respond =>
    rw [State.present, he]
    exact ⟨rfl, rfl⟩
  all_goals simp_all

/-- Settles O30: the four clauses are what a row can do to ERR, to S_EXIT, to S_RESPOND and at S_RESPOND. -/
theorem everyErrorLeavesThroughTheExitTransition : Obligations.EveryErrorLeavesThroughTheExitTransition := by
  intro aux s t h
  have r : s.RowTo t := rowTo_of_row h
  exact ⟨r.err_cases.resolve_left, r.seq_of_exit, r.exit_of_respond, r.response⟩

end Sys2Proof.Machine.State
end

section
/-! SUPPORT. The run of a whole command whatever the environment does: it ends within its bound, INIT and SET_MODE show their target at
its end, and the settle delays of the command lie behind it. -/

namespace Sys2Proof.Machine.State

/-! ### The run to the response -/

/-- Acceptance puts every sequenced command at the start of a run, whatever the block was before (R120, R129, R153). -/
theorem start_timedRun {s : State} {code : Byte} (hc : isSequenced code = true) (hpoll : 1 ≤ s.par.pollMs) :
    (s.start code).TimedRun := by
  refine ⟨⟨rfl, ?_, ?_, rfl⟩, ?_, ⟨hpoll, ?_, ?_⟩⟩
  case refine_3 => constructor <;> simp [hc, Seq.isExchange]
  all_goals simp

/-- As many steps as the bound says are enough, also where the parameters are out of range. -/
theorem TimedRun.runSteps_not_busy {n : Nat} {s : State} (h : s.TimedRun) (hw : s.work ≤ n) : (s.runSteps n).busy = false := by
  induction n generalizing s with
  | zero =>
    by_contra hb
    obtain ⟨t, -, -, hlt⟩ := h.exists_advance (by simpa using hb)
    omega
  | succ n ih =>
    cases hb : s.busy
    · rwa [runSteps_idle _ hb]
    · obtain ⟨t, ha, ht, hlt⟩ := h.exists_advance hb
      rw [runSteps_succ n hb ha]
      exact ih ht (by omega)

/-- Two runs that have come to the response are the same. -/
theorem runSteps_eq_of_not_busy {m n : Nat} {s : State} (hm : (s.runSteps m).busy = false) (hn : (s.runSteps n).busy = false) :
    s.runSteps m = s.runSteps n := by
  rcases Nat.le_total m n with h | h <;> obtain ⟨k, rfl⟩ := Nat.exists_eq_add_of_le h
  · rw [runSteps_add, runSteps_idle _ hm]
  · rw [runSteps_add, runSteps_idle _ hn]

theorem start_drive {s : State} (hs : s.Serialised) (code : Byte) :
    (s.start code).drive = (s.start code).runSteps (s.start code).work := if_pos hs.waits

/-- A command whose host waits runs to its response. -/
theorem start_drive_not_busy {s : State} {code : Byte} (hs : s.Serialised) (hc : isSequenced code = true) :
    (s.start code).drive.busy = false := by
  rw [start_drive hs]
  exact (start_timedRun hc hs.poll).runSteps_not_busy le_rfl

/-- Any run that comes to the response is the command's own. -/
theorem start_drive_eq {s t : State} {code : Byte} {n : Nat} (hs : s.Serialised) (hc : isSequenced code = true)
    (hrun : (s.start code).runSteps n = t) (ht : t.busy = false) : (s.start code).drive = t := by
  have hend : (s.start code).drive.busy = false := start_drive_not_busy hs hc
  subst hrun
  rw [start_drive hs] at hend ⊢
  exact runSteps_eq_of_not_busy hend ht

/-- What acceptance establishes and every row keeps holds at the response, where the block is idle. -/
theorem start_drive_induct {P : State → Prop} {s : State} {code : Byte} (hs : s.Serialised) (hc : isSequenced code = true)
    (hstart : P (s.start code)) (hrow : ∀ u v : State, u.ErrorsMatch → P u → u.envStep.RowTo v → P v) :
    P (s.start code).drive ∧ (s.start code).drive.busy = false ∧ (s.start code).drive.seq = .idle ∧
      (s.start code).drive.phase = .idle := by
  have hend : (s.start code).drive.TimedRun ∧ P (s.start code).drive := by
    rw [start_drive hs]
    exact runSteps_induct (P := fun u => u.TimedRun ∧ P u)
      (fun u v hu _ ha => ⟨hu.1.advance ha, hrow u v hu.1.errors hu.2 (rowTo_of_row ha)⟩) _ _ ⟨start_timedRun hc hs.poll, hstart⟩
  have hb : (s.start code).drive.busy = false := start_drive_not_busy hs hc
  obtain ⟨hq, hp⟩ := hend.1.sequencer.idle hb
  exact ⟨hend.2, hb, hq, hp⟩

/-! ### One transition -/

@[simp] theorem transitionRow_cfgl (aux : Level) (s : State) : (s.transitionRow aux).cfgl = s.cfgl :=
  (congrArg State.cfgl (transitionRow_frame aux s) :)
@[simp] theorem transitionRow_blkl (aux : Level) (s : State) : (s.transitionRow aux).blkl = s.blkl :=
  (congrArg State.blkl (transitionRow_frame aux s) :)
@[simp] theorem transitionRow_ft0 (aux : Level) (s : State) : (s.transitionRow aux).ft0 = s.ft0 :=
  (congrArg State.ft0 (transitionRow_frame aux s) :)
@[simp] theorem transitionRow_hostWaits (aux : Level) (s : State) : (s.transitionRow aux).hostWaits = s.hostWaits :=
  (congrArg State.hostWaits (transitionRow_frame aux s) :)

theorem transitionRow_now_le (aux : Level) (s : State) : s.now ≤ (s.transitionRow aux).now := by
  by_cases hp : s.phase = .idle
  · simp [transitionRow, hp]
  · rcases transitionRow_cases aux s hp with
      ⟨_, _, e⟩ | ⟨_, _, e⟩ | ⟨_, e⟩ | ⟨_, _, e⟩ | ⟨_, _, e⟩ | ⟨_, e⟩ | ⟨_, _, e⟩ | ⟨_, _, _, e⟩ | ⟨_, _, _, e⟩ | ⟨_, _, e⟩ |
      ⟨_, _, e⟩ <;> rw [e] <;> simp

/-- What a command of one transition leaves as it was at its acceptance `a`: INIT and SET_MODE touch no latch of a configuration
command, no error and no byte of TXLOG (R120, R129). -/
structure KeptByTransition (a u : State) : Prop where
  cmdl      : u.cmdl = a.cmdl
  target    : u.target = a.target
  err       : u.err = a.err
  errBytes  : u.errBytes = a.errBytes
  errCnt    : u.errCnt = a.errCnt
  txlog     : u.txlog = a.txlog
  cfgl      : u.cfgl = a.cfgl
  blkl      : u.blkl = a.blkl
  ft0       : u.ft0 = a.ft0
  par       : u.par = a.par
  host      : u.host = a.host
  hostWaits : u.hostWaits = a.hostWaits
  now       : a.now ≤ u.now

/-- The run of a command of one transition, accepted in `a`: it is in its transition, at S_RESPOND or answered with OK, and past step 2
it shows the target (R120 to R127, R129). -/
structure OneTransition (a u : State) : Prop where
  kept  : a.KeptByTransition u
  shown : u.phase.applied = true → a.ShowsTarget u
  place : (u.busy = true ∧ (u.seq = .enter ∨ u.seq = .respond)) ∨
    (u.seq = .idle ∧ u.rspValid = true ∧ u.rsp = Response.ended u.warn a.target)

theorem KeptByTransition.envStep {a u : State} (h : a.KeptByTransition u) : a.KeptByTransition u.envStep :=
  { h with now := Nat.le_add_right_of_le h.now }

theorem KeptByTransition.transitionRow {a u : State} (h : a.KeptByTransition u) (aux : Level) :
    a.KeptByTransition (u.transitionRow aux) := by
  obtain ⟨⟩ := h
  constructor
  case now => exact Nat.le_trans ‹_› (transitionRow_now_le aux u)
  all_goals simpa

theorem KeptByTransition.respond {a u : State} (h : a.KeptByTransition u) (hc : isTransitionOnly a.cmdl = true) (st : Status) :
    a.KeptByTransition (u.respond st) := by
  have hconfig : isConfigCommand u.cmdl = false := isConfigCommand_of_isTransitionOnly (h.cmdl ▸ hc)
  exact { h with cfgl := by simpa [hconfig] using h.cfgl, blkl := by simpa [hconfig] using h.blkl }

/-- The response of INIT and SET_MODE carries no record (R84). -/
theorem response_of_transition {s : State} (hc : isTransitionOnly s.cmdl = true) (hi : s.inited = true) :
    s.response .ok = Response.ended s.warn s.mode := by
  have hread : s.cmdl ≠ codeCfgRead := by
    rintro h
    rw [h] at hc
    exact absurd hc (by decide)
  simp [response, Response.ended, Response.bare, hread, hi]

theorem ShowsTarget.congr {a u v : State} (h : a.ShowsTarget u) (hs : u.SameMode v) : a.ShowsTarget v :=
  ⟨hs.mode.trans h.mode, hs.msA.trans h.msA, hs.msB.trans h.msB, hs.inited.trans h.inited⟩

theorem transitionRow_showsTarget {aux : Level} {a u : State} (ht : u.target = a.target)
    (hshown : u.phase.applied = true → a.ShowsTarget u) (hv : (u.transitionRow aux).phase.applied = true) :
    a.ShowsTarget (u.transitionRow aux) := by
  rcases transitionRow_mode aux u with ⟨-, hm, hA, hB, hi⟩ | ⟨hsame, happlied⟩
  · exact ⟨by rw [hm, ht], by rw [hA, ht], by rw [hB, ht], hi⟩
  · exact (hshown (happlied hv)).congr hsame

theorem OneTransition.envStep {a u : State} (h : a.OneTransition u) : a.OneTransition u.envStep :=
  ⟨h.kept.envStep, fun hp => (h.shown hp).congr ⟨rfl, rfl, rfl, rfl⟩, h.place⟩

/-- The rows of a command of one transition: those of the transition, its end, and the response. -/
theorem OneTransition.row {a u v : State} (h : a.OneTransition u) (hc : isTransitionOnly a.cmdl = true) (he : a.err = .ok)
    (r : u.RowTo v) : a.OneTransition v := by
  obtain ⟨hkept, hshown, hplace⟩ := h
  have hcmdl : isTransitionOnly u.cmdl = true := hkept.cmdl ▸ hc
  obtain ⟨hb, hq⟩ := hplace.resolve_right fun hidle => r.seq_ne_idle hidle.1
  cases r
  case transition aux _ _ =>
    exact ⟨hkept.transitionRow aux, transitionRow_showsTarget hkept.target hshown, .inl (by simpa [hb] using hq)⟩
  case enterDone =>
    exact ⟨{ hkept with }, fun hp => (hshown hp).congr ⟨rfl, rfl, rfl, rfl⟩, .inl ⟨hb, .inr rfl⟩⟩
  case respond hp =>
    have hsh : a.ShowsTarget u := hshown (by simp [hp, Phase.applied])
    have hpresent : u.present u.err = u.respond .ok := by rw [hkept.err, he]; rfl
    rw [hpresent]
    refine ⟨hkept.respond hc .ok, fun _ => hsh.congr ⟨rfl, rfl, rfl, rfl⟩, .inr ⟨rfl, rfl, ?_⟩⟩
    rw [respond_rsp, response_of_transition hcmdl hsh.inited, hsh.mode, respond_warn]
  case enterRead h | enterWrite h =>
    rw [h] at hcmdl
    exact absurd hcmdl (by decide)
  all_goals simp_all

theorem start_oneTransition (code : Byte) (s : State) : (s.start code).OneTransition (s.start code) :=
  ⟨⟨rfl, rfl, rfl, rfl, rfl, rfl, rfl, rfl, rfl, rfl, rfl, rfl, le_rfl⟩, by simp [Phase.applied], .inl ⟨rfl, .inl rfl⟩⟩

theorem isSequenced_of_isTransitionOnly {c : Byte} (h : isTransitionOnly c = true) : isSequenced c = true :=
  (isSequenced_iff c).2 (.inl h)

/-- `t` is the end of a transition to `m` with which the code `code` was answered in `s`, by a warning or without one (R120, R126,
R129). -/
abbrev EndsIn (m : Mode) (code : Byte) (s t : State) : Prop :=
  t.mode = m ∧ t.msA = m.lineA ∧ t.msB = m.lineB ∧ t.inited = true ∧
  t.busy = false ∧ t.seq = .idle ∧ t.phase = .idle ∧ t.cmdl = code ∧ t.target = m ∧
  t.err = .ok ∧ t.errBytes = [] ∧ t.errCnt = 0 ∧
  t.rspValid = true ∧ t.rsp = Response.ended t.warn m ∧
  t.txlog = s.txlog ∧ t.cfgl = s.cfgl ∧ t.blkl = s.blkl ∧ t.ft0 = s.ft0 ∧
  t.par = s.par ∧ t.host = s.host ∧ t.hostWaits = s.hostWaits ∧ s.now ≤ t.now

/-- INIT and SET_MODE come to their response in their target mode (R126, R129). -/
theorem start_drive_endsIn {s : State} {code : Byte} (hs : s.Serialised) (hc : isTransitionOnly code = true) :
    EndsIn (entryTarget code) code s (s.start code).drive := by
  obtain ⟨⟨hkept, hshown, hplace⟩, hb, hq, hp⟩ := start_drive_induct (P := (s.start code).OneTransition) hs
    (isSequenced_of_isTransitionOnly hc) (start_oneTransition code s) fun u v _ hu r => hu.envStep.row hc rfl r
  obtain ⟨hm, hA, hB, hi⟩ := hshown (by simp [hp, Phase.applied])
  obtain ⟨-, hvalid, hrsp⟩ := hplace.resolve_left fun hflight => by simp [hb] at hflight
  exact ⟨hm, hA, hB, hi, hb, hq, hp, hkept.cmdl, hkept.target, hkept.err, hkept.errBytes, hkept.errCnt, hvalid, hrsp, hkept.txlog,
    hkept.cfgl, hkept.blkl, hkept.ft0, hkept.par, hkept.host, hkept.hostWaits, hkept.now⟩

theorem exec_init_eq {s : State} (hb : s.busy = false) : exec .init s = .next (s.start codeInit).drive :=
  exec_of_accepted rfl hb (by simp [needsInit])

theorem Accepts.exec_setMode_eq {s : State} (h : s.Accepts) (m : Mode) :
    exec (.setMode m) s = .next (s.start (codeSetMode m)).drive :=
  exec_of_accepted rfl h.idle fun _ => h.inited

/-- Settles O32: INIT is the transition to Normal (`start_drive_endsIn`), which an idle block performs initialised or not. -/
theorem initForcesNormalMode : Obligations.InitForcesNormalMode := fun _ hs hb =>
  ⟨_, exec_init_eq hb, start_drive_endsIn hs isTransitionOnly_codeInit⟩

theorem entryTarget_codeSetMode (m : Mode) : entryTarget (codeSetMode m) = m := by cases m <;> decide

/-- Settles O33: the target of a SET_MODE is the one in its code (`entryTarget_codeSetMode`), and its run ends there
(`start_drive_endsIn`). -/
theorem setModeReachesItsTarget : Obligations.SetModeReachesItsTarget := by
  intro m s hs haccepts
  have hend := start_drive_endsIn hs (isTransitionOnly_codeSetMode m)
  rw [entryTarget_codeSetMode] at hend
  exact ⟨_, haccepts.exec_setMode_eq m, hend⟩

end Sys2Proof.Machine.State
end

section
/-! SUPPORT. How long a command lasts: its settle delays as a lower bound whatever the environment does, and its exact time where only
delays take time, with AUX low and with AUX high throughout. -/

namespace Sys2Proof.Machine.State

/-! ### The settle delays behind a row -/

@[simp] theorem present_cmdl (st : Status) (s : State) : (s.present st).cmdl = s.cmdl := by
  rcases present_cases st s with ⟨_, e⟩ | ⟨_, e⟩ <;> rw [e] <;> rfl
@[simp] theorem present_par (st : Status) (s : State) : (s.present st).par = s.par := by
  rcases present_cases st s with ⟨_, e⟩ | ⟨_, e⟩ <;> rw [e] <;> rfl

theorem RowTo.cmdl {s t : State} (r : s.RowTo t) : t.cmdl = s.cmdl := by cases r <;> simp
theorem RowTo.par {s t : State} (r : s.RowTo t) : t.par = s.par := by cases r <;> simp

/-- The settle delays of a transition that are over in a phase, the running one among them (R127). -/
def phaseDelays : Phase → Nat
  | .settle1 | .apply => 1
  | _ => 2

/-- The settle delays of the command in flight that are over, the running one among them: two for each of its transitions (R128, R153). -/
def delaysOver (s : State) : Nat :=
  match s.seq with
  | .enter => phaseDelays s.phase
  | .exit => 2 + phaseDelays s.phase
  | .encode | .tx | .rx | .decode => 2
  | .respond | .idle => if isConfigCommand s.cmdl then 4 else 2

/-- What the running settle delay has left (R23). -/
def settleLeft (s : State) : Nat :=
  match s.phase with
  | .settle1 | .settle2 => s.tmr
  | _ => 0

/-- Since `start` the settle delays that are over have passed, all but what the running one has left. -/
def DelaysSince (start : Nat) (s : State) : Prop := start + s.delaysOver * s.par.settleMs ≤ s.now + s.settleLeft

/-- A row of a transition ends a settle delay when TMR is 0 and starts one with TMR at SETTLE_MS (R127). -/
theorem transitionRow_delays (aux : Level) {start : Nat} {s : State} (hp : s.phase ≠ .idle)
    (h : start + phaseDelays s.phase * s.par.settleMs ≤ s.now + s.settleLeft) :
    start + phaseDelays (s.transitionRow aux).phase * s.par.settleMs ≤ (s.transitionRow aux).now + (s.transitionRow aux).settleLeft := by
  rcases transitionRow_cases aux s hp with
    ⟨q, _, e⟩ | ⟨q, _, e⟩ | ⟨q, e⟩ | ⟨q, _, e⟩ | ⟨q, _, e⟩ | ⟨q, e⟩ | ⟨q, _, e⟩ | ⟨q, _, _, e⟩ | ⟨q, _, _, e⟩ | ⟨q, _, e⟩ |
    ⟨q, _, e⟩ <;> rw [e] <;> simp_all [phaseDelays, settleLeft] <;> omega

/-- Time that passes is time that the running delay no longer has left (R128). -/
theorem DelaysSince.envStep {start : Nat} {s : State} (h : s.DelaysSince start) : s.envStep.DelaysSince start := by
  have hleft : s.now + s.settleLeft ≤ s.envStep.now + s.envStep.settleLeft := by
    unfold settleLeft
    cases hp : s.phase <;> simp [hp] <;> omega
  exact Nat.le_trans h hleft

theorem RowTo.delaysSince {start : Nat} {s t : State} (r : s.RowTo t) (he : s.ErrorsMatch) (h : s.DelaysSince start) :
    t.DelaysSince start := by
  unfold DelaysSince at *
  rw [r.par]
  cases r
  case transition aux hq hp =>
    rcases hq with hq | hq
    · have hrow := transitionRow_delays aux (start := start) hp (by simpa [delaysOver, hq] using h)
      simpa [delaysOver, hq] using hrow
    · have hrow := transitionRow_delays aux (start := start + 2 * s.par.settleMs) hp
        (by simpa [delaysOver, hq, Nat.add_mul, Nat.add_assoc] using h)
      simpa [delaysOver, hq, Nat.add_mul, Nat.add_assoc] using hrow
  case respond hq hp =>
    have hover : (s.respond s.err).delaysOver = s.delaysOver := by
      simp only [delaysOver, respond_seq, hq]
      rfl
    rw [he.present_eq_respond, hover]
    simpa [settleLeft, hp] using h
  case enterDone hc => simp_all [delaysOver, settleLeft, phaseDelays, isConfigCommand_of_isTransitionOnly hc]
  case invalid | wait | acknowledge | short | timeout | decode =>
    simp_all [delaysOver, settleLeft, phaseDelays]
    omega
  all_goals simp_all [delaysOver, settleLeft, phaseDelays]

/-- The settle delays of a whole command: two, and four for a configuration command (R133, R159). -/
theorem start_drive_now_ge {s : State} {code : Byte} (hs : s.Serialised) (hc : isSequenced code = true) :
    s.now + (if isConfigCommand code then 4 else 2) * s.par.settleMs ≤ (s.start code).drive.now := by
  obtain ⟨⟨hcmdl, hpar, hdelays⟩, -, hq, hp⟩ :=
    start_drive_induct (P := fun u => u.cmdl = code ∧ u.par = s.par ∧ u.DelaysSince s.now) hs hc
      ⟨rfl, rfl, by simp [DelaysSince, delaysOver, settleLeft, phaseDelays]⟩
      fun u v he ⟨hcmdl, hpar, hdelays⟩ r =>
        ⟨r.cmdl.trans hcmdl, r.par.trans hpar, r.delaysSince (envStep_errorsMatch he) hdelays.envStep⟩
  simpa [DelaysSince, delaysOver, settleLeft, hq, hp, hcmdl, hpar] using hdelays

@[simp] theorem isConfigCommand_codeSetMode (m : Mode) : isConfigCommand (codeSetMode m) = false :=
  isConfigCommand_of_isTransitionOnly (isTransitionOnly_codeSetMode m)

theorem Accepts.exec_cfgRead_eq {s : State} (h : s.Accepts) : exec .cfgRead s = .next (s.start codeCfgRead).drive :=
  exec_of_accepted rfl h.idle fun _ => h.inited

theorem Accepts.exec_cfgWrite_eq {s : State} (h : s.Accepts) (c : Configuration) :
    exec (.cfgWrite c) s = .next ({ s with cfgl := c }.start codeCfgWrite).drive :=
  exec_of_accepted rfl h.idle fun _ => h.inited

/-- Settles O39: each of the four commands is the run of its code, whose delays have passed (`start_drive_now_ge`). -/
theorem theSettleDelaysAreLowerBounds : Obligations.TheSettleDelaysAreLowerBounds := by
  intro m c s t hs
  have hwrite : { s with cfgl := c }.Serialised := ⟨hs.waits, hs.poll⟩
  refine ⟨fun hb ht => ?_, fun ha ht => ?_, fun ha ht => ?_, fun ha ht => ?_⟩
  · cases (exec_init_eq hb).symm.trans ht
    simpa using start_drive_now_ge hs isSequenced_codeInit
  · cases (ha.exec_setMode_eq m).symm.trans ht
    simpa using start_drive_now_ge hs (isSequenced_codeSetMode m)
  · cases ha.exec_cfgRead_eq.symm.trans ht
    simpa using start_drive_now_ge hs isSequenced_codeCfgRead
  · cases (ha.exec_cfgWrite_eq c).symm.trans ht
    simpa using start_drive_now_ge hwrite isSequenced_codeCfgWrite

/-! ### Runs in which only delays take time -/

/-- INIT and SET_MODE answer two rows after their transition is over (R153). -/
theorem runSteps_transition_response {e₁ e₂ : EnvAct} {rest : List EnvAct} {s : State} (hb : s.busy = true) (hq : s.seq = .enter)
    (hp : s.phase = .idle) (hc : isTransitionOnly s.cmdl = true) (he : s.err = .ok) (henv : s.env = e₁ :: e₂ :: rest)
    (h₁ : e₁.dt = 0) (h₂ : e₂.dt = 0) :
    s.runSteps 2 = { s with
      seq := .respond, rxbuf := s.rxbuf ++ e₁.arrive ++ e₂.arrive, env := rest, draws := s.draws + 2 }.respond .ok := by
  refine Eq.trans (runSteps_succ_of_arrive 1 hb henv h₁ (row_of_transition_over e₁.aux hq hp hc)) ?_
  refine Eq.trans (runSteps_succ_of_arrive 0 hb rfl h₂ (row_of_respond e₂.aux rfl hp (by simp [arrive, he, Status.isRefusal]))) ?_
  simp [arrive, he]

/-- One poll of a ready line that is not ready: a sample and a poll interval (R125, R127). -/
theorem runSteps_poll_interval {e : EnvAct} {acts rest : List EnvAct} {s : State} (hb : s.busy = true)
    (hq : s.seq = .enter ∨ s.seq = .exit) (hp : s.phase = .poll) (ht : s.now - s.t0 < s.par.readyTimeoutMs)
    (henv : s.env = e :: (acts ++ rest)) (hlen : acts.length = s.par.pollMs + 1) (he : e.dt = 0 ∧ e.aux = .high)
    (hdt : ∀ x ∈ acts, x.dt = 0) :
    s.runSteps (s.par.pollMs + 2) = { s with
      tmr := 0, now := s.now + s.par.pollMs, rxbuf := s.rxbuf ++ (e :: acts).flatMap EnvAct.arrive, env := rest,
      draws := s.draws + (s.par.pollMs + 2) } := by
  refine Eq.trans (runSteps_succ_of_transition _ hb hq (by simp [hp]) henv he.1
    (he.2 ▸ transitionRow_of_not_ready (s := s.arrive e.arrive (acts ++ rest)) hp ht)) ?_
  refine Eq.trans (runSteps_delay (d := s.par.pollMs) (acts := acts) (rest := rest) hb hq rfl rfl rfl hlen hdt) ?_
  simp [arrive, afterDelay, hp]
  omega

/-- A ready line that stays high is sampled `k + 1` times over `k` poll intervals, until the timeout has passed; the wait then ends
with the warning (R125, R133, R134). -/
theorem runSteps_stuck {k : Nat} {acts rest : List EnvAct} {s : State} (hb : s.busy = true) (hq : s.seq = .enter ∨ s.seq = .exit)
    (hp : s.phase = .poll) (htmr : s.tmr = 0) (ht0 : s.t0 ≤ s.now)
    (hwait : 0 < k → s.now - s.t0 + (k - 1) * s.par.pollMs < s.par.readyTimeoutMs)
    (hover : s.par.readyTimeoutMs ≤ s.now - s.t0 + k * s.par.pollMs) (henv : s.env = acts ++ rest)
    (hlen : acts.length = k * (s.par.pollMs + 2) + 1) (hacts : ∀ e ∈ acts, e.dt = 0 ∧ e.aux = .high) :
    s.runSteps (k * (s.par.pollMs + 2) + 1) = { s with
      phase := .idle, warn := true, now := s.now + k * s.par.pollMs, rxbuf := s.rxbuf ++ acts.flatMap EnvAct.arrive, env := rest,
      draws := s.draws + (k * (s.par.pollMs + 2) + 1) } := by
  induction k generalizing s acts with
  | zero =>
    obtain ⟨e, rfl⟩ := List.length_eq_one_iff.1 (by simpa using hlen)
    obtain ⟨hdt, haux⟩ := hacts e (by simp)
    simp only [Nat.zero_mul, Nat.zero_add, Nat.add_zero] at hover ⊢
    refine Eq.trans (runSteps_succ_of_transition 0 hb hq (by simp [hp]) henv hdt
      (haux ▸ transitionRow_of_timeout (s := s.arrive e.arrive rest) hp hover)) ?_
    simp [arrive]
  | succ k ih =>
    have hmul : (k + 1) * (s.par.pollMs + 2) + 1 = (s.par.pollMs + 2) + (k * (s.par.pollMs + 2) + 1) := by
      rw [Nat.add_mul, Nat.one_mul, Nat.add_right_comm, Nat.add_comm, Nat.add_assoc]
    rw [hmul] at hlen ⊢
    obtain ⟨first, acts, rfl, hfirst, hacts'⟩ := exists_append_of_length_eq_add hlen
    obtain ⟨e, first, rfl⟩ := List.exists_cons_of_length_eq_add_one hfirst
    simp only [List.forall_mem_append, List.forall_mem_cons] at hacts
    obtain ⟨⟨he, hdelay⟩, hlater⟩ := hacts
    have hnow : s.now - s.t0 + k * s.par.pollMs < s.par.readyTimeoutMs := hwait (by omega)
    have hk : (k + 1) * s.par.pollMs = s.par.pollMs + k * s.par.pollMs := by rw [Nat.add_mul, Nat.one_mul, Nat.add_comm]
    rw [runSteps_add, runSteps_poll_interval hb hq hp (by omega) (by simpa using henv) (by simpa using hfirst) he
      fun x hx => (hdelay x hx).1]
    refine Eq.trans (ih hb hq hp rfl (by simp; omega) (fun hpos => ?_) (by simp; omega) rfl hacts' hlater) ?_
    · obtain ⟨k, rfl⟩ := Nat.exists_eq_add_of_lt hpos
      simp only [Nat.zero_add, Nat.add_sub_cancel, Nat.add_mul, Nat.one_mul] at hnow ⊢
      omega
    · simp [hk, htmr]; omega

/-! ### SET_MODE under ideal timing -/

/-- The acts of an ideal run: those of the two delays, the drain and the apply row, those of the ready-wait, and two more. -/
theorem Ideal.exists_split {level : Level} {d r : Nat} {s : State} (h : s.Ideal level (2 * d + 7 + r)) :
    ∃ (acts polls : List EnvAct) (e₁ e₂ : EnvAct) (rest : List EnvAct), s.env = acts ++ (polls ++ e₁ :: e₂ :: rest) ∧
      acts.length = 2 * d + 4 ∧ polls.length = r + 1 ∧ (∀ e ∈ acts, e.dt = 0) ∧ (∀ e ∈ polls, e.dt = 0 ∧ e.aux = level) ∧
      e₁.dt = 0 ∧ e₂.dt = 0 := by
  obtain ⟨henough, hexact⟩ := h
  obtain ⟨n, hn⟩ := Nat.exists_eq_add_of_le henough
  have hlen : s.env.length = (2 * d + 4) + ((r + 1) + (n + 1 + 1)) := by omega
  obtain ⟨acts, tail, hacts, hlen₁, htail⟩ := exists_append_of_length_eq_add hlen
  obtain ⟨polls, tail, rfl, hlen₂, htail⟩ := exists_append_of_length_eq_add htail
  obtain ⟨e₁, tail, rfl⟩ := List.exists_cons_of_length_eq_add_one htail
  obtain ⟨e₂, rest, rfl⟩ := List.exists_cons_of_length_eq_add_one (Nat.succ.inj htail)
  rw [hacts] at hexact
  simp only [List.forall_mem_append, List.forall_mem_cons] at hexact
  obtain ⟨h₁, h₂, he₁, he₂, -⟩ := hexact
  exact ⟨acts, polls, e₁, e₂, rest, hacts, hlen₁, hlen₂, fun e he => (h₁ e he).1, h₂, he₁.1, he₂.1⟩

/-- The whole of a SET_MODE, from the run of its transition. -/
theorem setMode_drive_eq {m : Mode} {n : Nat} {e₁ e₂ : EnvAct} {rest : List EnvAct} {s u : State} (hs : s.Serialised)
    (hrun : (s.start (codeSetMode m)).runSteps n = u) (hb : u.busy = true) (hq : u.seq = .enter) (hp : u.phase = .idle)
    (hc : u.cmdl = codeSetMode m) (he : u.err = .ok) (henv : u.env = e₁ :: e₂ :: rest) (h₁ : e₁.dt = 0) (h₂ : e₂.dt = 0) :
    (s.start (codeSetMode m)).drive = { u with
      seq := .respond, rxbuf := u.rxbuf ++ e₁.arrive ++ e₂.arrive, env := rest, draws := u.draws + 2 }.respond .ok := by
  refine start_drive_eq (n := n + 2) hs (isSequenced_codeSetMode m) ?_ (respond_busy _ _)
  rw [runSteps_add, hrun, runSteps_transition_response hb hq hp (hc ▸ isTransitionOnly_codeSetMode m) he henv h₁ h₂]

/-- Settles O40: the transition is over after its two delays (`runSteps_ready_transition`), the response two rows later, in which no
time passes. -/
theorem aReadyTransitionLastsTwoSettleDelays : Obligations.AReadyTransitionLastsTwoSettleDelays := by
  intro m s hs haccepts hideal
  obtain ⟨acts, polls, e₁, e₂, rest, henv, hlen, hpolls, hdt, hready, h₁, h₂⟩ := Ideal.exists_split (r := 0) hideal
  obtain ⟨e, rfl⟩ := List.length_eq_one_iff.1 hpolls
  obtain ⟨he, haux⟩ := hready e (by simp)
  have hrun := runSteps_ready_transition (s := s.start (codeSetMode m)) rfl (.inl rfl) rfl rfl rfl henv hlen hdt he haux
  have hdrive := setMode_drive_eq hs hrun rfl rfl rfl rfl rfl rfl h₁ h₂
  refine ⟨_, haccepts.exec_setMode_eq m, ?_⟩
  rw [hdrive]
  refine ⟨rfl, rfl, ?_, entryTarget_codeSetMode m⟩
  rw [respond_rsp, response_of_transition (isTransitionOnly_codeSetMode m) rfl]
  exact congrArg (Response.ended false) (entryTarget_codeSetMode m)

/-- The number of poll intervals after which a timeout has passed, rounded up: it has passed then, and not an interval before. -/
theorem intervals_of_timeout {k t p : Nat} (hp : 1 ≤ p) (hk : k = (t + p - 1) / p) :
    t ≤ k * p ∧ (0 < k → (k - 1) * p < t) := by
  have hle : k * p ≤ t + p - 1 := by rw [hk]; exact Nat.div_mul_le_self _ _
  have hlt : t + p - 1 < (k + 1) * p := by
    rw [hk, Nat.mul_comm]
    exact Nat.lt_mul_div_succ _ hp
  rw [Nat.add_mul, Nat.one_mul] at hlt
  rw [Nat.sub_mul, Nat.one_mul]
  refine ⟨by omega, fun hpos => ?_⟩
  have hone : p ≤ k * p := Nat.le_mul_of_pos_left p hpos
  omega

/-- Settles O41: after the two delays (`runSteps_to_poll`) the ready-wait polls until its timeout has passed (`runSteps_stuck`), and the
response follows with the warning. -/
theorem aStuckReadyLineTimesOut : Obligations.AStuckReadyLineTimesOut := by
  intro m k s hs haccepts hk hideal
  obtain ⟨acts, polls, e₁, e₂, rest, henv, hlen, hpolls, hdt, hstuck, h₁, h₂⟩ := hideal.exists_split
  obtain ⟨hover, hwait⟩ := intervals_of_timeout hs.poll hk
  have hpoll := runSteps_to_poll (s := s.start (codeSetMode m)) rfl (.inl rfl) rfl rfl rfl henv hlen hdt
  have hadd := (runSteps_add _ (k * (s.par.pollMs + 2) + 1) _).trans (congrArg (runSteps _) hpoll)
  have hrun := hadd.trans (runSteps_stuck (k := k) rfl (.inl rfl) rfl rfl le_rfl (by simpa using hwait) (by simpa using hover)
    rfl hpolls hstuck)
  have hdrive := setMode_drive_eq hs hrun rfl rfl rfl rfl rfl rfl h₁ h₂
  refine ⟨_, haccepts.exec_setMode_eq m, ?_⟩
  rw [hdrive]
  have hmode : entryTarget (codeSetMode m) = m := entryTarget_codeSetMode m
  refine ⟨rfl, rfl, ?_, hmode, congrArg Mode.lineA hmode, congrArg Mode.lineB hmode, ?_⟩
  · rw [respond_rsp, response_of_transition (isTransitionOnly_codeSetMode m) rfl]
    exact congrArg (Response.ended true) hmode
  · simp only [respond_draws, start_draws, start_par]
    omega

end Sys2Proof.Machine.State
end

section
/-! SUPPORT. The last drain of a command: a run comes to it, and RXBUF holds at the response exactly the bytes that arrived since. -/

namespace Sys2Proof.Machine.State

/-! ### Arrivals and rows -/

@[simp] theorem present_env (st : Status) (s : State) : (s.present st).env = s.env := by
  rcases present_cases st s with ⟨_, e⟩ | ⟨_, e⟩ <;> rw [e] <;> rfl
@[simp] theorem present_draws (st : Status) (s : State) : (s.present st).draws = s.draws := by
  rcases present_cases st s with ⟨_, e⟩ | ⟨_, e⟩ <;> rw [e] <;> rfl
@[simp] theorem transitionRow_env (aux : Level) (s : State) : (s.transitionRow aux).env = s.env :=
  (congrArg State.env (transitionRow_frame aux s) :)
@[simp] theorem transitionRow_draws (aux : Level) (s : State) : (s.transitionRow aux).draws = s.draws :=
  (congrArg State.draws (transitionRow_frame aux s) :)

/-- No row draws an act of the environment: the step does, before the row (R57, log entry 3). -/
theorem RowTo.draws {s t : State} (r : s.RowTo t) : t.draws = s.draws := by cases r <;> simp

theorem RowTo.arrivals {s t : State} (r : s.RowTo t) (n : Nat) : t.arrivals n = s.arrivals n :=
  arrivals_congr (by cases r <;> simp) r.draws n

/-! ### Before and after the drain -/

/-- The phases of a transition up to its step 4, the drain (R124, R127). -/
def isBeforePoll : Phase → Bool
  | .settle1 | .apply | .settle2 | .drain => true
  | _ => false

/-- The place of the last transition of a command: S_EXIT after an exchange, S_ENTER where there is one transition only (R153). -/
def lastTransition (c : Byte) : Seq := if isConfigCommand c then .exit else .enter

/-- The drain of the last transition of the command in flight is still to come. -/
def DrainAhead (s : State) : Prop :=
  (s.seq = lastTransition s.cmdl ∧ isBeforePoll s.phase = true) ∨
  (isConfigCommand s.cmdl = true ∧ (s.seq = .enter ∨ s.seq.isExchange = true))

/-- The last transition of the command is past its drain, or the command is past its last transition. -/
def DrainOver (s : State) : Prop :=
  (s.seq = lastTransition s.cmdl ∧ isBeforePoll s.phase = false) ∨ s.seq = .respond ∨ s.seq = .idle

theorem lastTransition_cases (c : Byte) :
    (isConfigCommand c = true ∧ lastTransition c = .exit) ∨ (isConfigCommand c = false ∧ lastTransition c = .enter) := by
  cases h : isConfigCommand c <;> simp [lastTransition, h]

/-- A command past its last drain stands at no row of the exchange, nor at S_ENTER before one. -/
theorem DrainOver.place {s : State} (h : s.DrainOver) :
    s.seq = .exit ∨ (s.seq = .enter ∧ isConfigCommand s.cmdl = false) ∨ s.seq = .respond ∨ s.seq = .idle := by
  rcases h with ⟨q, -⟩ | q
  · rcases lastTransition_cases s.cmdl with ⟨-, e⟩ | ⟨hc, e⟩ <;> rw [e] at q
    · exact .inl q
    · exact .inr (.inl ⟨q, hc⟩)
  · exact .inr (.inr q)

theorem DrainAhead.seq_ne_idle {s : State} (h : s.DrainAhead) : s.seq ≠ .idle := by
  rintro hq
  rcases h with ⟨q, -⟩ | ⟨-, q⟩
  · rcases lastTransition_cases s.cmdl with ⟨-, e⟩ | ⟨-, e⟩ <;> simp [e, hq] at q
  · simp [hq, Seq.isExchange] at q

/-- Acceptance has every drain of the command ahead (R153). -/
theorem start_drainAhead (code : Byte) (s : State) : (s.start code).DrainAhead := by
  rcases lastTransition_cases code with ⟨hc, -⟩ | ⟨-, e⟩
  · exact .inr ⟨hc, .inl rfl⟩
  · exact .inl ⟨e.symm, rfl⟩

/-- A transition reaches its ready-wait by its drain only (R127). -/
theorem transitionRow_beforePoll (aux : Level) {s : State} (h : isBeforePoll s.phase = true) :
    s.phase = .drain ∨ isBeforePoll (s.transitionRow aux).phase = true := by
  have hp : s.phase ≠ .idle := by rintro hp; simp [hp, isBeforePoll] at h
  rcases transitionRow_cases aux s hp with
    ⟨q, _, e⟩ | ⟨q, _, e⟩ | ⟨q, e⟩ | ⟨q, _, e⟩ | ⟨q, _, e⟩ | ⟨q, e⟩ | ⟨q, _, e⟩ | ⟨q, _, _, e⟩ | ⟨q, _, _, e⟩ | ⟨q, _, e⟩ |
    ⟨q, _, e⟩ <;> rw [e] <;> simp_all [isBeforePoll]

/-- A ready-wait never goes back before its drain, and leaves RXBUF as it is (R125, R127). -/
theorem transitionRow_afterDrain (aux : Level) {s : State} (h : isBeforePoll s.phase = false) :
    isBeforePoll (s.transitionRow aux).phase = false ∧ (s.transitionRow aux).rxbuf = s.rxbuf := by
  by_cases hp : s.phase = .idle
  · simp [transitionRow, hp, isBeforePoll]
  · rcases transitionRow_cases aux s hp with
      ⟨q, _, e⟩ | ⟨q, _, e⟩ | ⟨q, e⟩ | ⟨q, _, e⟩ | ⟨q, _, e⟩ | ⟨q, e⟩ | ⟨q, _, e⟩ | ⟨q, _, _, e⟩ | ⟨q, _, _, e⟩ | ⟨q, _, e⟩ |
      ⟨q, _, e⟩ <;> rw [e] <;> simp_all [isBeforePoll]

/-- The command comes past its last drain by the drain row itself, which empties RXBUF (R49, R124). -/
theorem RowTo.drainAhead {s t : State} (r : s.RowTo t) (h : s.DrainAhead) :
    t.DrainAhead ∨ (s.seq = lastTransition s.cmdl ∧ s.phase = .drain ∧ t.rxbuf = [] ∧ t.DrainOver) := by
  cases r
  case transition aux hq hp =>
    rcases h with ⟨q, hbefore⟩ | ⟨hc, q⟩
    · rcases transitionRow_beforePoll aux hbefore with hdrain | hnext
      · rw [transitionRow_of_drain aux hdrain]
        exact .inr ⟨q, hdrain, rfl, .inl ⟨q, rfl⟩⟩
      · exact .inl (.inl ⟨by simpa using q, hnext⟩)
    · exact .inl (.inr (by simpa using ⟨hc, q⟩))
  case enterDone hp hc => simp [DrainAhead, hp, isBeforePoll, isConfigCommand_of_isTransitionOnly hc] at h
  -- the other rows stand outside a transition, so that the command is a configuration command still to leave Program
  all_goals
    obtain ⟨hconfig, hplace⟩ := h.resolve_left (by simp [*, isBeforePoll])
    exact .inl (by simp_all [DrainAhead, lastTransition, isBeforePoll, Seq.isExchange])

/-- Past its last drain a command leaves RXBUF alone (R126). -/
theorem RowTo.drainOver {s t : State} (r : s.RowTo t) (h : s.DrainOver) : t.DrainOver ∧ t.rxbuf = s.rxbuf := by
  cases r
  case transition aux hq hp =>
    obtain ⟨q, hafter⟩ := h.resolve_right (by rcases hq with hq | hq <;> simp [hq])
    obtain ⟨hphase, hrx⟩ := transitionRow_afterDrain aux hafter
    exact ⟨.inl ⟨by simpa using q, hphase⟩, hrx⟩
  case enterDone | exitDone => exact ⟨.inr (.inl rfl), rfl⟩
  case respond hq _ =>
    refine ⟨.inr ?_, by simp⟩
    rcases present_cases s.err s with ⟨_, e⟩ | ⟨_, e⟩ <;> rw [e]
    · exact .inl hq
    · exact .inr rfl
  -- every other row stands in the exchange or leads into it
  all_goals
    exfalso
    rcases h.place with q | ⟨q, hc'⟩ | q | q <;> simp_all

/-! ### The bytes of a run -/

/-- From a drain on, a run only appends to RXBUF what arrives (R50, R126). -/
theorem DrainOver.runSteps_rxbuf (n : Nat) {s : State} (h : s.DrainOver) :
    ∃ k : Nat, (s.runSteps n).draws = s.draws + k ∧ (s.runSteps n).rxbuf = s.rxbuf ++ s.arrivals k := by
  induction n generalizing s with
  | zero => exact ⟨0, by simp⟩
  | succ n ih =>
    cases hb : s.busy
    · exact ⟨0, by simp [runSteps_idle _ hb]⟩
    · cases ha : s.advance with
      | none => exact ⟨0, by simp [runSteps_of_advance_none _ ha]⟩
      | some t =>
        have r : s.envStep.RowTo t := rowTo_of_row ha
        obtain ⟨hover, hrx⟩ := r.drainOver h
        obtain ⟨k, hdraws, hbytes⟩ := ih hover
        refine ⟨k + 1, ?_, ?_⟩
        · rw [runSteps_succ n hb ha, hdraws, r.draws, envStep_draws]
          omega
        · rw [runSteps_succ n hb ha, hbytes, hrx, r.arrivals, arrivals_succ, envStep_rxbuf, List.append_assoc]

/-- A run to the response passes the drain of the command's last transition. -/
theorem TimedRun.exists_drain {n : Nat} {s : State} (h : s.TimedRun) (hahead : s.DrainAhead) (hend : (s.runSteps n).busy = false) :
    ∃ (k j : Nat) (d : State), (s.runSteps k).busy = true ∧ (s.runSteps k).seq = lastTransition s.cmdl ∧
      (s.runSteps k).phase = .drain ∧ (s.runSteps k).advance = some d ∧ d.rxbuf = [] ∧ d.DrainOver ∧
      s.runSteps n = d.runSteps j := by
  have hb : s.busy = true := h.sequencer.busy_of_seq_ne_idle hahead.seq_ne_idle
  induction n generalizing s with
  | zero => simp [hb] at hend
  | succ n ih =>
    obtain ⟨t, ha, ht, -⟩ := h.exists_advance hb
    have r : s.envStep.RowTo t := rowTo_of_row ha
    rw [runSteps_succ n hb ha] at hend ⊢
    rcases r.drainAhead hahead with hnext | ⟨hq, hp, hrx, hover⟩
    · obtain ⟨k, j, d, hk⟩ := ih ht hnext hend (ht.sequencer.busy_of_seq_ne_idle hnext.seq_ne_idle)
      rw [← runSteps_succ k hb ha, r.cmdl] at hk
      exact ⟨k + 1, j, d, hk⟩
    · exact ⟨0, n, t, hb, hq, hp, ha, hrx, hover, rfl⟩

/-- Every sequenced command keeps exactly the bytes that arrived after the drain of its last transition (R126). -/
theorem start_keptSinceDrain {s : State} {code : Byte} (hs : s.Serialised) (hc : isSequenced code = true) :
    (s.start code).KeptSinceDrain (lastTransition code) (s.start code).drive := by
  have hend : (s.start code).drive.busy = false := start_drive_not_busy hs hc
  rw [start_drive hs] at hend ⊢
  obtain ⟨k, j, d, hb, hq, hp, ha, hrx, hover, hrun⟩ :=
    (start_timedRun hc hs.poll).exists_drain (start_drainAhead code s) hend
  obtain ⟨n, hdraws, hbytes⟩ := hover.runSteps_rxbuf j
  rw [hrun]
  exact ⟨k, n, d, hb, hq, hp, ha, hrx, hdraws, by rw [hbytes, hrx, List.nil_append]⟩

/-- Settles O57: each of the four commands is the run of its code (`start_keptSinceDrain`), whose last transition is the one stated. -/
theorem aCommandKeepsExactlyTheBytesAfterItsDrain : Obligations.ACommandKeepsExactlyTheBytesAfterItsDrain := by
  intro m c s t hs
  have hwrite : { s with cfgl := c }.Serialised := ⟨hs.waits, hs.poll⟩
  have hsetMode : lastTransition (codeSetMode m) = .enter := by simp [lastTransition]
  refine ⟨fun hb ht => ?_, fun ha ht => ?_, fun ha ht => ?_, fun ha ht => ?_⟩
  · cases (exec_init_eq hb).symm.trans ht
    exact start_keptSinceDrain hs isSequenced_codeInit
  · cases (ha.exec_setMode_eq m).symm.trans ht
    exact hsetMode ▸ start_keptSinceDrain hs (isSequenced_codeSetMode m)
  · cases ha.exec_cfgRead_eq.symm.trans ht
    exact start_keptSinceDrain hs isSequenced_codeCfgRead
  · cases (ha.exec_cfgWrite_eq c).symm.trans ht
    exact start_keptSinceDrain hwrite isSequenced_codeCfgWrite

end Sys2Proof.Machine.State
end

section
/-! SUPPORT. The warning flag reaches nothing but itself and its copy in the response (R157, R184). -/

namespace Sys2Proof.Machine.State

/-- The state with the warning flag at `w`. -/
def withWarn (w : Bool) (s : State) : State := { s with warn := w }

@[simp] theorem withWarn_phase (w : Bool) (s : State) : (s.withWarn w).phase = s.phase := rfl
@[simp] theorem withWarn_seq (w : Bool) (s : State) : (s.withWarn w).seq = s.seq := rfl
@[simp] theorem withWarn_tmr (w : Bool) (s : State) : (s.withWarn w).tmr = s.tmr := rfl
@[simp] theorem withWarn_t0 (w : Bool) (s : State) : (s.withWarn w).t0 = s.t0 := rfl
@[simp] theorem withWarn_par (w : Bool) (s : State) : (s.withWarn w).par = s.par := rfl
@[simp] theorem withWarn_now (w : Bool) (s : State) : (s.withWarn w).now = s.now := rfl

/-- `t'` is `t` but for the warning flag and its copy in the response. -/
def SameButWarn (t t' : State) : Prop := { t' with warn := t.warn, rsp := { t'.rsp with warn := t.rsp.warn } } = t

/-- A row of a transition sets the flag where the ready-wait timed out, and never looks at it (R125, R127). -/
theorem transitionRow_withWarn (aux : Level) (w : Bool) (s : State) :
    (s.transitionRow aux).SameButWarn ((s.withWarn w).transitionRow aux) := by
  by_cases hp : s.phase = .idle
  · simp only [transitionRow, withWarn_phase, hp] <;> rfl
  · rcases transitionRow_cases aux s hp with
      ⟨_, _, e⟩ | ⟨_, _, e⟩ | ⟨_, e⟩ | ⟨_, _, e⟩ | ⟨_, _, e⟩ | ⟨_, e⟩ | ⟨_, _, e⟩ | ⟨_, _, _, e⟩ | ⟨_, _, _, e⟩ | ⟨_, _, e⟩ |
      ⟨_, _, e⟩ <;> rw [e] <;> simp [transitionRow, Nat.not_le_of_lt, *] <;> rfl

theorem readResponseRow_withWarn (w : Bool) (s : State) : (s.withWarn w).readResponseRow = s.readResponseRow.withWarn w := by
  have hlook : (s.withWarn w).readLook readResponseLen = s.readLook readResponseLen := rfl
  unfold readResponseRow
  rw [hlook]
  cases s.readLook readResponseLen <;> rfl

theorem readAckRow_withWarn (w : Bool) (s : State) : (s.withWarn w).readAckRow = s.readAckRow.withWarn w := by
  have hlook : (s.withWarn w).readLook writeAckLen = s.readLook writeAckLen := rfl
  unfold readAckRow
  rw [hlook]
  cases s.readLook writeAckLen <;> rfl

theorem encodeRecord_withWarn (w : Bool) (cfg : Configuration) (s : State) :
    (s.withWarn w).encodeRecord cfg = (s.encodeRecord cfg).withWarn w := by
  cases hv : cfg.valid
  · simp only [encodeRecord_of_invalid hv]
    rfl
  · simp only [encodeRecord_of_valid hv]
    rfl

/-- Outside a transition and before the response a row leaves the flag as it finds it. -/
theorem row_withWarn_of_phase_idle (aux : Level) (w : Bool) {s : State} (hp : s.phase = .idle) (hq : s.seq ≠ .respond) :
    (s.withWarn w).row aux = (s.row aux).map (withWarn w) := by
  cases hs : s.seq
  case respond => exact absurd hs hq
  case idle => simp only [row, withWarn_seq, hs, Option.map_none]
  all_goals
    simp only [row, withWarn_seq, withWarn_phase, hs, hp, encodeRecord_withWarn, readResponseRow_withWarn, readAckRow_withWarn,
      apply_ite (Option.map (withWarn w)), Option.map_some, Option.map_none] <;> rfl

theorem row_of_present (aux : Level) {s : State} (hq : s.seq = .respond) (hp : s.phase = .idle) :
    s.row aux = some (s.present s.err) := by
  simp [row, hq, hp]

/-- The response copies the flag, a refusal does not. -/
theorem present_withWarn (w : Bool) (st : Status) (s : State) : (s.present st).SameButWarn ((s.withWarn w).present st) := by
  unfold present
  split <;> rfl

/-- Settles O31: inside a transition (`transitionRow_withWarn`), at the response (`present_withWarn`) and at every other row
(`row_withWarn_of_phase_idle`). -/
theorem aWarningNeverChangesThePath : Obligations.AWarningNeverChangesThePath := by
  intro aux w s t h
  by_cases hp : s.phase = .idle
  · by_cases hq : s.seq = .respond
    · cases (row_of_present aux hq hp).symm.trans h
      exact ⟨_, row_of_present aux (s := s.withWarn w) hq hp, present_withWarn w s.err s⟩
    · exact ⟨t.withWarn w, (row_withWarn_of_phase_idle aux w hp hq).trans (by rw [h, Option.map_some]), rfl⟩
  · rcases row_cases h with ⟨hq, -, rfl⟩ | ⟨hidle, -⟩
    · exact ⟨_, row_of_transition aux (s := s.withWarn w) hq hp, transitionRow_withWarn aux w s⟩
    · exact absurd hidle hp

end Sys2Proof.Machine.State
end

section
/-! SUPPORT. CFG_READ and CFG_WRITE as whole commands: what the exchange sends, receives and latches row by row, and the response that
ends it in Normal on every path (R150 to R153, R181, R186, R187). -/

namespace Sys2Proof.Machine.State

/-! ### The run to the row S_RESPOND -/

/-- What acceptance establishes, and the environment's act and every row before the response keep, holds of the state that responds. -/
theorem start_drive_respond {P : State → Prop} {s : State} {code : Byte} (hs : s.Serialised) (hc : isSequenced code = true)
    (hstart : P (s.start code)) (henv : ∀ u : State, P u → P u.envStep)
    (hrow : ∀ u v : State, u.ErrorsMatch → P u → u.RowTo v → u.seq ≠ .respond → P v) :
    ∃ u : State, P u ∧ u.ErrorsMatch ∧ u.seq = .respond ∧ u.phase = .idle ∧ (s.start code).drive = u.respond u.err := by
  obtain ⟨hend, hb, -, hp⟩ := start_drive_induct
    (P := fun v => (v.busy = true ∧ P v) ∨ ∃ u : State, P u ∧ u.ErrorsMatch ∧ u.seq = .respond ∧ v = u.respond u.err) hs hc
    (.inl ⟨rfl, hstart⟩) fun u v he hu r => by
      rcases hu with ⟨hb, hu⟩ | ⟨w, -, -, -, rfl⟩
      · have he' : u.envStep.ErrorsMatch := envStep_errorsMatch he
        by_cases hq : u.seq = .respond
        · exact .inr ⟨u.envStep, henv u hu, he', hq, r.eq_respond hq he'⟩
        · exact .inl ⟨(r.busy_of_seq_ne_respond hq).trans hb, hrow _ v he' (henv u hu) r hq⟩
      · exact absurd rfl r.seq_ne_idle
  obtain ⟨u, hu, he, hq, h⟩ := hend.resolve_left fun hflight => by simp [hb] at hflight
  rw [h] at hp
  exact ⟨u, hu, he, hq, hp, h⟩

/-! ### What every row of a run leaves unchanged -/

@[simp] theorem present_now (st : Status) (s : State) : (s.present st).now = s.now := by
  rcases present_cases st s with ⟨_, e⟩ | ⟨_, e⟩ <;> rw [e] <;> rfl
@[simp] theorem present_errBytes (st : Status) (s : State) : (s.present st).errBytes = s.errBytes := by
  rcases present_cases st s with ⟨_, e⟩ | ⟨_, e⟩ <;> rw [e] <;> rfl
@[simp] theorem present_hostWaits (st : Status) (s : State) : (s.present st).hostWaits = s.hostWaits := by
  rcases present_cases st s with ⟨_, e⟩ | ⟨_, e⟩ <;> rw [e] <;> rfl

theorem RowTo.hostWaits {s t : State} (r : s.RowTo t) : t.hostWaits = s.hostWaits := by cases r <;> simp

/-- NOW never decreases (R7). -/
theorem RowTo.now_le {s t : State} (r : s.RowTo t) : s.now ≤ t.now := by
  cases r
  case transition aux _ _ => exact transitionRow_now_le aux s
  all_goals simp

/-- The code in flight, the parameters and the host's elements stay as they were at acceptance, and time passes. -/
structure SameCommand (a u : State) : Prop where
  cmdl      : u.cmdl = a.cmdl
  par       : u.par = a.par
  host      : u.host = a.host
  hostWaits : u.hostWaits = a.hostWaits
  now       : a.now ≤ u.now

theorem SameCommand.envStep {a u : State} (h : a.SameCommand u) : a.SameCommand u.envStep :=
  { h with now := Nat.le_add_right_of_le h.now }

theorem SameCommand.row {a u v : State} (h : a.SameCommand u) (r : u.RowTo v) : a.SameCommand v :=
  ⟨r.cmdl.trans h.cmdl, r.par.trans h.par, r.host.trans h.host, r.hostWaits.trans h.hostWaits, h.now.trans r.now_le⟩

/-! ### Back to Normal -/

/-- From the request of its second transition on a configuration command has Normal as its target, and past step 2 of that transition
the block shows it (R152, R122). -/
structure ReturnsToNormal (u : State) : Prop where
  target : u.seq = .exit ∨ u.seq = .respond → u.target = .normal
  shown  : u.seq = .exit ∨ u.seq = .respond → u.phase.applied = true → u.ShowsTarget u

theorem ReturnsToNormal.envStep {u : State} (h : u.ReturnsToNormal) : u.envStep.ReturnsToNormal :=
  ⟨h.target, fun hq hp => ⟨(h.shown hq hp).mode, (h.shown hq hp).msA, (h.shown hq hp).msB, (h.shown hq hp).inited⟩⟩

theorem ReturnsToNormal.row {u v : State} (h : u.ReturnsToNormal) (hc : isConfigCommand u.cmdl = true) (r : u.RowTo v)
    (hq : u.seq ≠ .respond) : v.ReturnsToNormal := by
  obtain ⟨htarget, hshown⟩ := h
  cases r
  case transition aux _ _ =>
    refine ⟨by simpa using htarget, fun hv hp => ?_⟩
    have hu : u.seq = .exit ∨ u.seq = .respond := by simpa using hv
    obtain ⟨hm, hA, hB, hi⟩ := transitionRow_showsTarget (aux := aux) (a := u) rfl (hshown hu) hp
    exact ⟨by simpa using hm, by simpa using hA, by simpa using hB, hi⟩
  case exitDone hs hp _ =>
    have hsh : u.ShowsTarget u := hshown (.inl hs) (by simp [hp, Phase.applied])
    exact ⟨fun _ => htarget (.inl hs), fun _ _ => ⟨hsh.mode, hsh.msA, hsh.msB, hsh.inited⟩⟩
  case enterDone ht => simp [isConfigCommand_of_isTransitionOnly ht] at hc
  case respond h _ => exact absurd h hq
  case invalid | acknowledge | short | timeout | decode => constructor <;> simp [Phase.applied]
  all_goals constructor <;> simp [*]

/-! ### The exchange -/

/-- The frame that the configuration command accepted in `a` sends, if its record is valid (R51, R52, R53). -/
def frame (a : State) : List Byte := if a.cmdl = codeCfgRead then readRequest else writeRequest (pack a.cfgl)

/-- The exchange of the command accepted in `a` has come to the UART: a record to be written was valid, and `log` holds the frame
(R151, R153). -/
structure Sent (a : State) (log : List Byte) : Prop where
  valid : a.cmdl = codeCfgWrite → a.cfgl.valid = true
  log   : log = a.txlog ++ a.frame

/-- How the exchange of the configuration command accepted in `a` has ended in `u` (R150, R151, R152, R186). -/
inductive Ended (a u : State) : Prop where
  | ok (hs : a.Sent u.txlog) (he : u.err = .ok) (hv : a.cmdl = codeCfgRead → u.cfgl.valid = true)
  | short (hs : a.Sent u.txlog) (he : u.err = .shortRead)
  | timeout (hs : a.Sent u.txlog) (he : u.err = .transportTimeout)
  | invalid (hc : a.cmdl = codeCfgWrite) (hv : a.cfgl.valid = false) (he : u.err = .invalidEnumValue) (htx : u.txlog = a.txlog)
      (hft : u.ft0 = a.ft0)

theorem Ended.congr {a u v : State} (h : a.Ended u) (htx : v.txlog = u.txlog) (he : v.err = u.err) (hc : v.cfgl = u.cfgl)
    (hft : v.ft0 = u.ft0) : a.Ended v := by
  cases h
  case ok hs hok hv => exact .ok (htx ▸ hs) (he.trans hok) (hc ▸ hv)
  case short hs hsh => exact .short (htx ▸ hs) (he.trans hsh)
  case timeout hs hto => exact .timeout (htx ▸ hs) (he.trans hto)
  case invalid hw hv hin hlog hf => exact .invalid hw hv (he.trans hin) (htx.trans hlog) (hft.trans hf)

/-- Nothing of the command accepted in `a` has reached the UART yet. -/
structure Unsent (a u : State) : Prop where
  txlog : u.txlog = a.txlog
  ft0   : u.ft0 = a.ft0
  cfgl  : u.cfgl = a.cfgl

/-- A configuration command in flight, accepted in `a`: what its exchange has done so far, by its place in the table R153. -/
inductive Exchange (a u : State) : Prop where
  | entering (hq : u.seq = .enter ∨ u.seq = .encode) (he : u.err = .ok) (hun : a.Unsent u)
  | encoded (hq : u.seq = .tx) (he : u.err = .ok) (htx : u.txlog = a.txlog)
      (hw : a.cmdl = codeCfgWrite → a.cfgl.valid = true ∧ u.blkl = pack a.cfgl)
  | waiting (hq : u.seq = .rx ∨ u.seq = .decode) (he : u.err = .ok) (hs : a.Sent u.txlog)
  | leaving (hq : u.seq = .exit ∨ u.seq = .respond) (hend : a.Ended u)

theorem Exchange.envStep {a u : State} (h : a.Exchange u) : a.Exchange u.envStep := by
  cases h
  case entering hq he hun => exact .entering hq he ⟨hun.txlog, hun.ft0, hun.cfgl⟩
  case encoded hq he htx hw => exact .encoded hq he htx hw
  case waiting hq he hs => exact .waiting hq he hs
  case leaving hq hend => exact .leaving hq (hend.congr rfl rfl rfl rfl)

theorem Sent.of_send {a u : State} {fr : List Byte} (hcmdl : u.cmdl = a.cmdl) (htx : u.txlog = a.txlog)
    (hw : a.cmdl = codeCfgWrite → a.cfgl.valid = true ∧ u.blkl = pack a.cfgl)
    (hc : u.cmdl = codeCfgRead ∧ fr = readRequest ∨ u.cmdl = codeCfgWrite ∧ fr = writeRequest u.blkl) : a.Sent (u.txlog ++ fr) := by
  rw [hcmdl] at hc
  refine ⟨fun h => (hw h).1, ?_⟩
  rcases hc with ⟨hread, rfl⟩ | ⟨hwrite, rfl⟩
  · simp [htx, frame, hread]
  · simp [htx, frame, hwrite, (hw hwrite).2]

/-- The rows of a configuration command before its response (R153). -/
theorem Exchange.row {a u v : State} (h : a.Exchange u) (hcmdl : u.cmdl = a.cmdl) (hconfig : isConfigCommand u.cmdl = true)
    (r : u.RowTo v) (hrespond : u.seq ≠ .respond) : a.Exchange v := by
  cases h
  case entering hq he hun =>
    obtain ⟨htx, hft, hcfg⟩ := hun
    cases r
    case transition => exact .entering (by simpa using hq) (by simpa using he) ⟨by simpa, by simpa, by simpa⟩
    case enterRead hc => exact .encoded rfl he htx fun hw => absurd ((hcmdl.trans hw).symm.trans hc) codeCfgWrite_ne_codeCfgRead
    case enterWrite => exact .entering (.inr rfl) he ⟨htx, hft, hcfg⟩
    case enterDone hc => simp [isConfigCommand_of_isTransitionOnly hc] at hconfig
    case encode hv => exact .encoded rfl he htx fun _ => ⟨hcfg ▸ hv, congrArg pack hcfg⟩
    case invalid hc hv => exact .leaving (.inl rfl) (.invalid (hcmdl ▸ hc) (hcfg ▸ hv) rfl htx hft)
    all_goals simp_all
  case encoded hq he htx hw =>
    cases r
    case send hc => exact .waiting (.inl rfl) he (.of_send hcmdl htx hw hc)
    all_goals simp_all
  case waiting hq he hs =>
    cases r
    case transition h _ => rcases hq with q | q <;> simp [q] at h
    case wait => exact .waiting hq he hs
    case receive => exact .waiting (.inr rfl) he hs
    case acknowledge hc _ => exact .leaving (.inl rfl) (.ok hs he fun hr =>
        absurd (hc.symm.trans (hcmdl.trans hr)) codeCfgWrite_ne_codeCfgRead)
    case short => exact .leaving (.inl rfl) (.short hs rfl)
    case timeout => exact .leaving (.inl rfl) (.timeout hs rfl)
    case decode => exact .leaving (.inl rfl) (.ok hs he fun _ => unpack_valid _)
    all_goals simp_all
  case leaving hq hend =>
    cases r
    case transition => exact .leaving (by simpa using hq) (hend.congr (by simp) (by simp) (by simp) (by simp))
    case exitDone => exact .leaving (.inr rfl) (hend.congr rfl rfl rfl rfl)
    all_goals simp_all

/-! ### The response -/

theorem start_sameCommand (code : Byte) (s : State) : (s.start code).SameCommand (s.start code) := ⟨rfl, rfl, rfl, rfl, le_rfl⟩

theorem isSequenced_of_isConfigCommand {c : Byte} (h : isConfigCommand c = true) : isSequenced c = true :=
  (isSequenced_iff c).2 (.inr h)

/-- The state in which a configuration command accepted in `a` responds. -/
structure Responds (a u : State) : Prop where
  kept   : a.SameCommand u
  errors : u.ErrorsMatch
  seq    : u.seq = .respond
  phase  : u.phase = .idle
  normal : u.mode = .normal ∧ u.msA = .low ∧ u.msB = .low ∧ u.inited = true
  ended  : a.Ended u

/-- Every configuration command comes to its response, in Normal (R150, R151, R152). -/
theorem start_drive_config {s : State} {code : Byte} (hs : s.Serialised) (hc : isConfigCommand code = true) :
    ∃ u : State, (s.start code).Responds u ∧ (s.start code).drive = u.respond u.err := by
  obtain ⟨u, ⟨hkept, hreturns, hexchange⟩, he, hq, hp, hdrive⟩ := start_drive_respond
    (P := fun u => (s.start code).SameCommand u ∧ u.ReturnsToNormal ∧ (s.start code).Exchange u) hs
    (isSequenced_of_isConfigCommand hc)
    ⟨start_sameCommand code s, ⟨by simp, by simp⟩, .entering (.inl rfl) rfl ⟨rfl, rfl, rfl⟩⟩
    (fun u ⟨hkept, hreturns, hexchange⟩ => ⟨hkept.envStep, hreturns.envStep, hexchange.envStep⟩)
    fun u v _ ⟨hkept, hreturns, hexchange⟩ r hq =>
      have hconfig : isConfigCommand u.cmdl = true := by rw [hkept.cmdl]; exact hc
      ⟨hkept.row r, hreturns.row hconfig r hq, hexchange.row hkept.cmdl hconfig r hq⟩
  have htarget : u.target = .normal := hreturns.target (.inr hq)
  obtain ⟨hm, hA, hB, hi⟩ := hreturns.shown (.inr hq) (by simp [hp, Phase.applied])
  rw [htarget] at hm hA hB
  refine ⟨u, ⟨hkept, he, hq, hp, ⟨hm, hA, hB, hi⟩, ?_⟩, hdrive⟩
  cases hexchange
  case leaving hend => exact hend
  all_goals simp_all

/-- Without a ShortRead no byte is latched (R21, R181). -/
theorem ErrorsMatch.no_bytes {u : State} (h : u.ErrorsMatch) (he : u.err ≠ .shortRead) : u.errBytes = [] ∧ u.errCnt = 0 := by
  have hbytes : u.errBytes = [] := by
    by_contra hne
    exact he (h.bytes.2 hne)
  exact ⟨hbytes, by rw [h.count, hbytes]; rfl⟩

/-- The response of a configuration command carries the error latches as they stand, and the record of a CFG_READ without an error
(R84, R150, R151). -/
theorem Responds.response {a u : State} (h : a.Responds u) :
    u.response u.err = { Response.ended u.warn .normal with
      status := u.err, cfg := if u.err = .ok ∧ a.cmdl = codeCfgRead then some u.cfgl else none, count := u.errCnt,
      bytes := u.errBytes } := by
  obtain ⟨hm, -, -, hi⟩ := h.normal
  by_cases he : u.err = .shortRead
  · simp [State.response, Response.ended, Response.bare, hm, hi, he]
  · obtain ⟨hbytes, hcnt⟩ := h.errors.no_bytes he
    simp [State.response, Response.ended, Response.bare, hm, hi, he, hbytes, hcnt, h.kept.cmdl]

/-- At the response the error latches hold what it says (R187). -/
theorem Responds.latches {a u : State} (h : a.Responds u) :
    u.errBytes = (u.response u.err).bytes ∧ u.errCnt = (u.response u.err).count := by
  rw [h.response]
  exact ⟨rfl, rfl⟩

/-- Unless it was a CFG_WRITE of an invalid record, the command has sent its frame. -/
theorem Ended.sent {a u : State} (h : a.Ended u) (hv : a.cmdl = codeCfgWrite → a.cfgl.valid = true) : a.Sent u.txlog := by
  cases h
  case invalid hc hinvalid _ _ _ => simp [hv hc] at hinvalid
  all_goals assumption

/-- The three responses of a command that has sent its frame (R150, R151, R181, R182). -/
theorem Responds.response_of_sent {a u : State} (h : a.Responds u) (hv : a.cmdl = codeCfgWrite → a.cfgl.valid = true) :
    ((a.cmdl = codeCfgRead → u.cfgl.valid = true) ∧ u.response u.err =
      { Response.ended u.warn .normal with cfg := if a.cmdl = codeCfgRead then some u.cfgl else none }) ∨
    (1 ≤ u.errBytes.length ∧ u.response u.err = { Response.ended u.warn .normal with
      status := .shortRead, count := BitVec.ofNat 4 u.errBytes.length, bytes := u.errBytes }) ∨
    u.response u.err = { Response.ended u.warn .normal with status := .transportTimeout } := by
  rw [h.response]
  cases h.ended
  case ok he hvalid =>
    obtain ⟨hbytes, hcnt⟩ := h.errors.no_bytes (by simp [he])
    exact .inl ⟨hvalid, by simp [he, hbytes, hcnt, Response.ended, Response.bare]⟩
  case short he =>
    have hne : u.errBytes ≠ [] := h.errors.bytes.1 he
    exact .inr (.inl ⟨List.length_pos_iff.2 hne, by simp [he, h.errors.count, Response.ended, Response.bare]⟩)
  case timeout he =>
    obtain ⟨hbytes, hcnt⟩ := h.errors.no_bytes (by simp [he])
    exact .inr (.inr (by simp [he, hbytes, hcnt, Response.ended, Response.bare]))
  case invalid hc hinvalid _ _ _ => simp [hv hc] at hinvalid

/-- A CFG_WRITE of an invalid record has sent nothing (R151, R183). -/
theorem Responds.response_of_invalid {a u : State} (h : a.Responds u) (hc : a.cmdl = codeCfgWrite) (hv : a.cfgl.valid = false) :
    u.txlog = a.txlog ∧ u.ft0 = a.ft0 ∧
      u.response u.err = { Response.ended u.warn .normal with status := .invalidEnumValue } := by
  rw [h.response]
  cases h.ended
  case invalid he htx hft =>
    obtain ⟨hbytes, hcnt⟩ := h.errors.no_bytes (by simp [he])
    exact ⟨htx, hft, by simp [he, hbytes, hcnt, Response.ended, Response.bare]⟩
  case ok hs _ _ | short hs _ | timeout hs _ => simp [hs.valid hc] at hv

/-- A CFG_WRITE latches at most 7 bytes: 8 would have been the acknowledgement (R53, R181). -/
theorem row_errBytes_length_le {aux : Level} {s t : State} (h : s.row aux = some t) (hc : s.cmdl = codeCfgWrite)
    (hl : s.errBytes.length ≤ 7) : t.errBytes.length ≤ 7 := by
  have r : s.RowTo t := rowTo_of_row h
  cases r
  case short hq hp _ hne _ =>
    have hack : s.readAckRow = s.uartDrain.raiseError .shortRead s.rxbuf :=
      Option.some.inj ((row_of_cfgWrite_rx aux hq hp hc).symm.trans h)
    rcases readAckRow_cases s with ⟨_, e⟩ | ⟨hlen, _⟩ | ⟨_, hr, _⟩ | ⟨hlen, _⟩
    · rw [← hack, e]
      simpa using hl
    · exact Nat.le_of_lt_succ hlen
    · exact absurd hr hne
    · exact Nat.le_of_lt_succ hlen
  all_goals simp [hl]

theorem start_drive_cfgWrite_errBytes {s : State} (hs : s.Serialised) : (s.start codeCfgWrite).drive.errBytes.length ≤ 7 := by
  rw [start_drive hs]
  refine (runSteps_induct (P := fun u => u.cmdl = codeCfgWrite ∧ u.errBytes.length ≤ 7) ?_ _ _ ⟨rfl, by simp⟩).2
  intro u v ⟨hc, hl⟩ _ h
  exact ⟨(rowTo_of_row h).cmdl.trans hc, row_errBytes_length_le (s := u.envStep) h hc hl⟩

/-! ### The statements -/

/-- Settles O34: CFG_READ responds in Normal (`start_drive_config`), has sent the read request, and answers in one of the three ways of
`Responds.response_of_sent`. -/
theorem cfgReadEndsInNormalOnEveryPath : Obligations.CfgReadEndsInNormalOnEveryPath := by
  intro s hs ha
  obtain ⟨u, hu, hdrive⟩ := start_drive_config hs isConfigCommand_codeCfgRead
  obtain ⟨hcmdl, hpar, hhost, hwaits, hnow⟩ := hu.kept
  obtain ⟨hm, hA, hB, hi⟩ := hu.normal
  obtain ⟨hbytes, hcnt⟩ := hu.latches
  have hread : ∀ {p : Prop}, (s.start codeCfgRead).cmdl = codeCfgWrite → p := fun h => absurd h codeCfgWrite_ne_codeCfgRead.symm
  refine ⟨_, ha.exec_cfgRead_eq.trans (congrArg _ hdrive), hm, hA, hB, hi, rfl, rfl, hu.phase, hcmdl, (hu.ended.sent hread).log,
    rfl, ?_, rfl, hbytes, hcnt, hpar, hhost, hwaits, hnow⟩
  rcases hu.response_of_sent hread with ⟨hvalid, h⟩ | ⟨hpos, h⟩ | h
  · exact .inl ⟨u.cfgl, hvalid rfl, h⟩
  · exact .inr (.inl ⟨u.errBytes, hpos, hu.errors.bound, h⟩)
  · exact .inr (.inr h)

/-- Settles O35: CFG_WRITE responds in Normal (`start_drive_config`); a valid record has been sent (`Responds.response_of_sent`), an
invalid one has not (`Responds.response_of_invalid`). -/
theorem cfgWriteEndsInNormalOnEveryPath : Obligations.CfgWriteEndsInNormalOnEveryPath := by
  intro c s hs ha
  have hwrite : { s with cfgl := c }.Serialised := ⟨hs.waits, hs.poll⟩
  obtain ⟨u, hu, hdrive⟩ := start_drive_config hwrite isConfigCommand_codeCfgWrite
  have hbound : u.errBytes.length ≤ 7 := by simpa [hdrive] using start_drive_cfgWrite_errBytes hwrite
  obtain ⟨hcmdl, hpar, hhost, hwaits, hnow⟩ := hu.kept
  obtain ⟨hm, hA, hB, hi⟩ := hu.normal
  obtain ⟨hbytes, hcnt⟩ := hu.latches
  refine ⟨_, (ha.exec_cfgWrite_eq c).trans (congrArg _ hdrive), hm, hA, hB, hi, rfl, rfl, hu.phase, hcmdl, rfl,
    fun hv => ⟨?_, ?_⟩, hu.response_of_invalid rfl, rfl, hbytes, hcnt, hpar, hhost, hwaits, hnow⟩
  · exact (hu.ended.sent fun _ => hv).log.trans (by simp [frame, writeRequest, writeHeader])
  · rcases hu.response_of_sent fun _ => hv with ⟨-, h⟩ | ⟨hpos, h⟩ | h
    · exact .inl h
    · exact .inr (.inl ⟨u.errBytes, hpos, hbound, h⟩)
    · exact .inr (.inr h)

/-- Settles O38: the record of a CFG_READ is valid (O34), so of the two clauses of O35 it is the first that holds of its CFG_WRITE. -/
theorem aReadRecordCanBeWrittenBack : Obligations.AReadRecordCanBeWrittenBack := by
  intro c s t u hs ha ht hrec hu
  obtain ⟨t, ht', hmode, -, -, hinited, hb, -, -, -, -, -, hanswer, -, -, -, hpar, -, hwaits, -⟩ :=
    cfgReadEndsInNormalOnEveryPath s hs ha
  cases ht'.symm.trans ht
  have hvalid : c.valid = true := by
    rcases hanswer with ⟨d, hd, h⟩ | ⟨bs, -, -, h⟩ | h <;> rw [h] at hrec <;> cases hrec
    exact hd
  obtain ⟨u, hu', hmode', -, -, -, -, -, -, -, -, hsent, -⟩ :=
    cfgWriteEndsInNormalOnEveryPath c t ⟨hwaits.trans hs.waits, by rw [hpar]; exact hs.poll⟩ ⟨hb, hinited⟩
  cases hu'.symm.trans hu
  obtain ⟨htx, hstatus⟩ := hsent hvalid
  refine ⟨hvalid, ?_, pack_canonical c, htx, hmode, hmode'⟩
  rcases hstatus with h | ⟨bs, -, -, h⟩ | h <;> rw [h] <;> nofun

/-- A host that does not wait sees the acceptance alone (log entry 5). -/
theorem start_drive_of_not_waiting {s : State} (h : s.hostWaits = false) (code : Byte) : (s.start code).drive = s.start code :=
  if_neg (by simp [h])

/-- Settles O36: the run of a command whose host does not wait is its acceptance (`start_drive_of_not_waiting`), the row S_IDLE. -/
theorem acceptanceStartsTheFirstTransition : Obligations.AcceptanceStartsTheFirstTransition := by
  intro m c s hw
  refine ⟨fun hb => ?_, fun ha => ⟨?_, ?_, ?_⟩⟩
  · rw [exec_init_eq hb, start_drive_of_not_waiting hw]
    rfl
  · rw [ha.exec_setMode_eq, start_drive_of_not_waiting hw, start, entryTarget_codeSetMode]
    rfl
  · rw [ha.exec_cfgRead_eq, start_drive_of_not_waiting hw]
    rfl
  · rw [ha.exec_cfgWrite_eq, start_drive_of_not_waiting (s := { s with cfgl := c }) hw]
    rfl

end Sys2Proof.Machine.State
end

section
/-! SUPPORT. The line port: LINE_SEND and LINE_RECV of a block that accepts them, and a text with a terminator at the port (R170 to
R172). -/

namespace Sys2Proof.Machine.State

/-- Settles O13: LINE_SEND of a block that accepts it is one UART write, whose bytes follow those already in TXLOG. -/
theorem lineSendAppendsTheTextAndOneTerminator : Obligations.LineSendAppendsTheTextAndOneTerminator := by
  intro text s h
  have hexec : exec (.lineSend text) s = .next ((s.uartWrite (text ++ [Config.newline])).answer (Response.bare .ok)) :=
    exec_of_accepted rfl h.idle fun _ => h.inited
  rw [hexec, uartWrite, ← List.append_assoc]
  rfl

/-- Where RXBUF holds a terminator, the bytes before the first one are the answer (R171). -/
theorem receiveLine_of_terminator {line rest : List Byte} {s : State} (hline : Config.newline ∉ line)
    (hbuf : s.rxbuf = line ++ Config.newline :: rest) :
    s.receiveLine =
      { s with rxbuf := rest }.answer { Response.bare .ok with text := some line, hasData := some true } := by
  rw [receiveLine, hbuf, splitLine_of_terminator line rest hline]

/-- Where RXBUF holds none, the answer is "no data" (R171). -/
theorem receiveLine_of_no_terminator {s : State} (hbuf : Config.newline ∉ s.rxbuf) :
    s.receiveLine = s.answer { Response.bare .ok with hasData := some false } := by
  rw [receiveLine, splitLine_of_none s.rxbuf hbuf]

theorem Accepts.exec_lineRecv_eq {s : State} (h : s.Accepts) : exec .lineRecv s = .next s.receiveLine :=
  exec_of_accepted rfl h.idle fun _ => h.inited

/-- Settles O14: a block that accepts LINE_RECV receives a line, with a terminator in RXBUF (`receiveLine_of_terminator`) or without
one (`receiveLine_of_no_terminator`); a busy block and an uninitialised one decline it. -/
theorem lineRecvTakesTheFirstLine : Obligations.LineRecvTakesTheFirstLine := by
  refine ⟨fun line rest s h hline hbuf => ?_, fun s h hbuf => ?_, fun s => exec_of_busy rfl, fun s => exec_of_not_initialised rfl rfl⟩
  · rw [h.exec_lineRecv_eq, receiveLine_of_terminator hline hbuf]
    rfl
  · rw [h.exec_lineRecv_eq, receiveLine_of_no_terminator hbuf]
    rfl

theorem isLineText_eq_false_iff (text : List Byte) : isLineText text = false ↔ Config.newline ∈ text := by
  simp [isLineText]

theorem decode_lineSend {p : CommandPort} (h : p.code = codeLineSend) : Sys2Proof.decode (.command p) = .ok (.lineSend p.text) := by
  rw [Sys2Proof.decode, decodeCommand, h]
  rfl

/-- A block that accepts commands admits a presented instruction only where it is well formed (R170, log entry 8). -/
theorem Accepts.admits_eq_wf {s : State} (h : s.Accepts) (i : Instr) : s.admits i = i.wf := by
  simp [admits, h.idle, h.inited]

/-- The act of the environment before a step leaves an accepting block accepting. -/
theorem Accepts.stepStart {s : State} (h : s.Accepts) : s.stepStart.Accepts := ⟨h.idle, h.inited⟩

/-- Settles O20: the code decodes to LINE_SEND of the text, which the block that would accept it does not admit. -/
theorem aTextWithATerminatorIsRefusedAtThePort : Obligations.ATextWithATerminatorIsRefusedAtThePort := by
  intro p w rest s hh h hcode htext
  have hdecode : Sys2Proof.decode (.command p) = .ok (.lineSend p.text) := decode_lineSend hcode
  have hadmits : s.stepStart.admits (.lineSend p.text) = false :=
    (h.stepStart.admits_eq_wf _).trans ((isLineText_eq_false_iff p.text).2 htext)
  simp [step, hh, hdecode, hadmits]

end Sys2Proof.Machine.State
end

section
/-! SUPPORT. The refusals of R185, for the commands of the host in one list. -/

namespace Sys2Proof.Machine

open State

/-- Settles O15: each of the nine is a command of the host, which a busy block declines (`exec_of_busy`), and each of the six needs INIT
first, without which an idle block declines it (`exec_of_not_initialised`). -/
theorem refusedCommandsChangeNothing : Obligations.RefusedCommandsChangeNothing := by
  refine fun m c b text s => ⟨fun hb i hi => ?_, fun hb hinit i hi => ?_⟩
  · have hcommand : isHostCommand i = true := by
      simp only [List.mem_cons, List.not_mem_nil, or_false] at hi
      rcases hi with rfl | rfl | rfl | rfl | rfl | rfl | rfl | rfl | rfl <;> rfl
    exact exec_of_busy hcommand hb
  · obtain ⟨hcommand, hneeds⟩ : isHostCommand i = true ∧ needsInit i = true := by
      simp only [List.mem_cons, List.not_mem_nil, or_false] at hi
      rcases hi with rfl | rfl | rfl | rfl | rfl | rfl <;> exact ⟨rfl, rfl⟩
    exact exec_of_not_initialised hcommand hneeds hb hinit

end Sys2Proof.Machine
end
